-- ==== Sys2Proof/Word.lean ====
section
/-! DEFINITION. The two widths of the machine (00_scope.md R5, R6). -/

namespace Sys2Proof

/-- `u8` of 00_scope.md R6. -/
abbrev Byte := BitVec 8

/-- `u16` of 00_scope.md R6: addresses, `PC`, `SP` and the register-pair views. -/
abbrev Word := BitVec 16

end Sys2Proof
end

