-- ==== Sys2Proof/Machine/Bits.lean ====
section
/-! DEFINITION. Byte order, widening and single-bit helpers (00_scope.md R6), kept where a repair may mend them. -/

namespace Sys2Proof

/-- `hi ++ lo` of 00_scope.md R6: the first byte is the more significant. -/
def joinBytes (hi lo : Byte) : Word := hi ++ lo

/-- `v[15:8]`. -/
def hiByte (v : Word) : Byte := v.extractLsb' 8 8

/-- `v[7:0]`. -/
def loByte (v : Word) : Byte := v.extractLsb' 0 8

/-- `zext_16(v)` of 00_scope.md R6. -/
def zext16 (v : Byte) : Word := v.setWidth 16

/-- `sext_16(v)` of 00_scope.md R6. -/
def sext16 (v : Byte) : Word := v.signExtend 16

/-- `1 << b` as a byte. -/
def bitMask (b : Nat) : Byte := 1#8 <<< b

end Sys2Proof
end

