-- ==== Sys2Proof/Syntax.lean ====
section
/-! DEFINITION. The instruction set as syntax: operand names, the 512 rows of the opcode table, and their field view. -/

namespace Sys2Proof

/-- The seven 8-bit registers an `r8` field can name (30_encoding.md R84, index 6 apart). -/
inductive Reg8 where
  | b | c | d | e | h | l | a
  deriving DecidableEq, Repr

/-- The pairs of `LD rr,nn`, `ADD HL,rr`, `INC rr`, `DEC rr` (30_encoding.md R85). -/
inductive Reg16 where
  | bc | de | hl | sp
  deriving DecidableEq, Repr

/-- The pairs of `PUSH` and `POP` (30_encoding.md R86). -/
inductive RegStk where
  | bc | de | hl | af
  deriving DecidableEq, Repr

/-- The address operands of the accumulator loads through a pair (30_encoding.md R90, x=0 z=2; 43_load8.md R229). -/
inductive Ptr where
  | bc | de | hlInc | hlDec
  deriving DecidableEq, Repr

/-- The branch conditions (30_encoding.md R87). -/
inductive Cond where
  | nz | z | nc | c
  deriving DecidableEq, Repr

/-- The 8-bit ALU operations in the order of their field code (30_encoding.md R88). -/
inductive AluOp where
  | add | adc | sub | sbc | and | xor | or | cp
  deriving DecidableEq, Repr

/-- The secondary table's rotates and shifts in the order of their field code (30_encoding.md R88). -/
inductive RotOp where
  | rlc | rrc | rl | rr | sla | sra | swap | srl
  deriving DecidableEq, Repr

/-- The accumulator rotates of the primary table (30_encoding.md R90, x=0 z=7). -/
inductive AccRot where
  | rlca | rrca | rla | rra
  deriving DecidableEq, Repr

/-- A 3-bit field used as a number: the bit index of `BIT`, `RES`, `SET` and the vector index of `RST`
(30_encoding.md R88). -/
inductive Ix8 where
  | i0 | i1 | i2 | i3 | i4 | i5 | i6 | i7
  deriving DecidableEq, Repr

/-- The eleven undefined primary opcode values (30_encoding.md R93). -/
inductive UndefOp where
  | uD3 | uDB | uDD | uE3 | uE4 | uEB | uEC | uED | uF4 | uFC | uFD
  deriving DecidableEq, Repr

/-- The instructions: one constructor for each of the 512 rows of spec/opcode_table.json
(30_encoding.md R90, R91, R98), the rows with an immediate first, each group in the table's order. `n` is an unsigned immediate byte, `e` a signed offset byte, `nn` a 16-bit immediate
(R89). The constructor `prefix_CB` is the prefix row (R92) and the eleven `undefined_xx` are the rows that select no
instruction (R93); `WellFormed` refuses these twelve. -/
inductive Instr where
  | ld_BC_nn (nn : Word)
  | ld_B_n (n : Byte)
  | ld_at_nn_SP (nn : Word)
  | ld_C_n (n : Byte)
  | ld_DE_nn (nn : Word)
  | ld_D_n (n : Byte)
  | jr_e (e : Byte)
  | ld_E_n (n : Byte)
  | jr_NZ_e (e : Byte)
  | ld_HL_nn (nn : Word)
  | ld_H_n (n : Byte)
  | jr_Z_e (e : Byte)
  | ld_L_n (n : Byte)
  | jr_NC_e (e : Byte)
  | ld_SP_nn (nn : Word)
  | ld_at_HL_n (n : Byte)
  | jr_C_e (e : Byte)
  | ld_A_n (n : Byte)
  | jp_NZ_nn (nn : Word)
  | jp_nn (nn : Word)
  | call_NZ_nn (nn : Word)
  | add_A_n (n : Byte)
  | jp_Z_nn (nn : Word)
  | call_Z_nn (nn : Word)
  | call_nn (nn : Word)
  | adc_A_n (n : Byte)
  | jp_NC_nn (nn : Word)
  | call_NC_nn (nn : Word)
  | sub_n (n : Byte)
  | jp_C_nn (nn : Word)
  | call_C_nn (nn : Word)
  | sbc_A_n (n : Byte)
  | ldh_at_n_A (n : Byte)
  | and_n (n : Byte)
  | add_SP_e (e : Byte)
  | ld_at_nn_A (nn : Word)
  | xor_n (n : Byte)
  | ldh_A_at_n (n : Byte)
  | or_n (n : Byte)
  | ld_HL_SPpluse (e : Byte)
  | ld_A_at_nn (nn : Word)
  | cp_n (n : Byte)
  | nop
  | ld_at_BC_A
  | inc_BC
  | inc_B
  | dec_B
  | rlca
  | add_HL_BC
  | ld_A_at_BC
  | dec_BC
  | inc_C
  | dec_C
  | rrca
  | stop
  | ld_at_DE_A
  | inc_DE
  | inc_D
  | dec_D
  | rla
  | add_HL_DE
  | ld_A_at_DE
  | dec_DE
  | inc_E
  | dec_E
  | rra
  | ld_at_HLplus_A
  | inc_HL
  | inc_H
  | dec_H
  | daa
  | add_HL_HL
  | ld_A_at_HLplus
  | dec_HL
  | inc_L
  | dec_L
  | cpl
  | ld_at_HLminus_A
  | inc_SP
  | inc_at_HL
  | dec_at_HL
  | scf
  | add_HL_SP
  | ld_A_at_HLminus
  | dec_SP
  | inc_A
  | dec_A
  | ccf
  | ld_B_B
  | ld_B_C
  | ld_B_D
  | ld_B_E
  | ld_B_H
  | ld_B_L
  | ld_B_at_HL
  | ld_B_A
  | ld_C_B
  | ld_C_C
  | ld_C_D
  | ld_C_E
  | ld_C_H
  | ld_C_L
  | ld_C_at_HL
  | ld_C_A
  | ld_D_B
  | ld_D_C
  | ld_D_D
  | ld_D_E
  | ld_D_H
  | ld_D_L
  | ld_D_at_HL
  | ld_D_A
  | ld_E_B
  | ld_E_C
  | ld_E_D
  | ld_E_E
  | ld_E_H
  | ld_E_L
  | ld_E_at_HL
  | ld_E_A
  | ld_H_B
  | ld_H_C
  | ld_H_D
  | ld_H_E
  | ld_H_H
  | ld_H_L
  | ld_H_at_HL
  | ld_H_A
  | ld_L_B
  | ld_L_C
  | ld_L_D
  | ld_L_E
  | ld_L_H
  | ld_L_L
  | ld_L_at_HL
  | ld_L_A
  | ld_at_HL_B
  | ld_at_HL_C
  | ld_at_HL_D
  | ld_at_HL_E
  | ld_at_HL_H
  | ld_at_HL_L
  | halt
  | ld_at_HL_A
  | ld_A_B
  | ld_A_C
  | ld_A_D
  | ld_A_E
  | ld_A_H
  | ld_A_L
  | ld_A_at_HL
  | ld_A_A
  | add_A_B
  | add_A_C
  | add_A_D
  | add_A_E
  | add_A_H
  | add_A_L
  | add_A_at_HL
  | add_A_A
  | adc_A_B
  | adc_A_C
  | adc_A_D
  | adc_A_E
  | adc_A_H
  | adc_A_L
  | adc_A_at_HL
  | adc_A_A
  | sub_B
  | sub_C
  | sub_D
  | sub_E
  | sub_H
  | sub_L
  | sub_at_HL
  | sub_A
  | sbc_A_B
  | sbc_A_C
  | sbc_A_D
  | sbc_A_E
  | sbc_A_H
  | sbc_A_L
  | sbc_A_at_HL
  | sbc_A_A
  | and_B
  | and_C
  | and_D
  | and_E
  | and_H
  | and_L
  | and_at_HL
  | and_A
  | xor_B
  | xor_C
  | xor_D
  | xor_E
  | xor_H
  | xor_L
  | xor_at_HL
  | xor_A
  | or_B
  | or_C
  | or_D
  | or_E
  | or_H
  | or_L
  | or_at_HL
  | or_A
  | cp_B
  | cp_C
  | cp_D
  | cp_E
  | cp_H
  | cp_L
  | cp_at_HL
  | cp_A
  | ret_NZ
  | pop_BC
  | push_BC
  | rst_00
  | ret_Z
  | ret
  | prefix_CB
  | rst_08
  | ret_NC
  | pop_DE
  | undefined_D3
  | push_DE
  | rst_10
  | ret_C
  | reti
  | undefined_DB
  | undefined_DD
  | rst_18
  | pop_HL
  | ld_at_C_A
  | undefined_E3
  | undefined_E4
  | push_HL
  | rst_20
  | jp_HL
  | undefined_EB
  | undefined_EC
  | undefined_ED
  | rst_28
  | pop_AF
  | ld_A_at_C
  | di
  | undefined_F4
  | push_AF
  | rst_30
  | ld_SP_HL
  | ei
  | undefined_FC
  | undefined_FD
  | rst_38
  | rlc_B
  | rlc_C
  | rlc_D
  | rlc_E
  | rlc_H
  | rlc_L
  | rlc_at_HL
  | rlc_A
  | rrc_B
  | rrc_C
  | rrc_D
  | rrc_E
  | rrc_H
  | rrc_L
  | rrc_at_HL
  | rrc_A
  | rl_B
  | rl_C
  | rl_D
  | rl_E
  | rl_H
  | rl_L
  | rl_at_HL
  | rl_A
  | rr_B
  | rr_C
  | rr_D
  | rr_E
  | rr_H
  | rr_L
  | rr_at_HL
  | rr_A
  | sla_B
  | sla_C
  | sla_D
  | sla_E
  | sla_H
  | sla_L
  | sla_at_HL
  | sla_A
  | sra_B
  | sra_C
  | sra_D
  | sra_E
  | sra_H
  | sra_L
  | sra_at_HL
  | sra_A
  | swap_B
  | swap_C
  | swap_D
  | swap_E
  | swap_H
  | swap_L
  | swap_at_HL
  | swap_A
  | srl_B
  | srl_C
  | srl_D
  | srl_E
  | srl_H
  | srl_L
  | srl_at_HL
  | srl_A
  | bit_0_B
  | bit_0_C
  | bit_0_D
  | bit_0_E
  | bit_0_H
  | bit_0_L
  | bit_0_at_HL
  | bit_0_A
  | bit_1_B
  | bit_1_C
  | bit_1_D
  | bit_1_E
  | bit_1_H
  | bit_1_L
  | bit_1_at_HL
  | bit_1_A
  | bit_2_B
  | bit_2_C
  | bit_2_D
  | bit_2_E
  | bit_2_H
  | bit_2_L
  | bit_2_at_HL
  | bit_2_A
  | bit_3_B
  | bit_3_C
  | bit_3_D
  | bit_3_E
  | bit_3_H
  | bit_3_L
  | bit_3_at_HL
  | bit_3_A
  | bit_4_B
  | bit_4_C
  | bit_4_D
  | bit_4_E
  | bit_4_H
  | bit_4_L
  | bit_4_at_HL
  | bit_4_A
  | bit_5_B
  | bit_5_C
  | bit_5_D
  | bit_5_E
  | bit_5_H
  | bit_5_L
  | bit_5_at_HL
  | bit_5_A
  | bit_6_B
  | bit_6_C
  | bit_6_D
  | bit_6_E
  | bit_6_H
  | bit_6_L
  | bit_6_at_HL
  | bit_6_A
  | bit_7_B
  | bit_7_C
  | bit_7_D
  | bit_7_E
  | bit_7_H
  | bit_7_L
  | bit_7_at_HL
  | bit_7_A
  | res_0_B
  | res_0_C
  | res_0_D
  | res_0_E
  | res_0_H
  | res_0_L
  | res_0_at_HL
  | res_0_A
  | res_1_B
  | res_1_C
  | res_1_D
  | res_1_E
  | res_1_H
  | res_1_L
  | res_1_at_HL
  | res_1_A
  | res_2_B
  | res_2_C
  | res_2_D
  | res_2_E
  | res_2_H
  | res_2_L
  | res_2_at_HL
  | res_2_A
  | res_3_B
  | res_3_C
  | res_3_D
  | res_3_E
  | res_3_H
  | res_3_L
  | res_3_at_HL
  | res_3_A
  | res_4_B
  | res_4_C
  | res_4_D
  | res_4_E
  | res_4_H
  | res_4_L
  | res_4_at_HL
  | res_4_A
  | res_5_B
  | res_5_C
  | res_5_D
  | res_5_E
  | res_5_H
  | res_5_L
  | res_5_at_HL
  | res_5_A
  | res_6_B
  | res_6_C
  | res_6_D
  | res_6_E
  | res_6_H
  | res_6_L
  | res_6_at_HL
  | res_6_A
  | res_7_B
  | res_7_C
  | res_7_D
  | res_7_E
  | res_7_H
  | res_7_L
  | res_7_at_HL
  | res_7_A
  | set_0_B
  | set_0_C
  | set_0_D
  | set_0_E
  | set_0_H
  | set_0_L
  | set_0_at_HL
  | set_0_A
  | set_1_B
  | set_1_C
  | set_1_D
  | set_1_E
  | set_1_H
  | set_1_L
  | set_1_at_HL
  | set_1_A
  | set_2_B
  | set_2_C
  | set_2_D
  | set_2_E
  | set_2_H
  | set_2_L
  | set_2_at_HL
  | set_2_A
  | set_3_B
  | set_3_C
  | set_3_D
  | set_3_E
  | set_3_H
  | set_3_L
  | set_3_at_HL
  | set_3_A
  | set_4_B
  | set_4_C
  | set_4_D
  | set_4_E
  | set_4_H
  | set_4_L
  | set_4_at_HL
  | set_4_A
  | set_5_B
  | set_5_C
  | set_5_D
  | set_5_E
  | set_5_H
  | set_5_L
  | set_5_at_HL
  | set_5_A
  | set_6_B
  | set_6_C
  | set_6_D
  | set_6_E
  | set_6_H
  | set_6_L
  | set_6_at_HL
  | set_6_A
  | set_7_B
  | set_7_C
  | set_7_D
  | set_7_E
  | set_7_H
  | set_7_L
  | set_7_at_HL
  | set_7_A
  deriving DecidableEq, Repr

/-- The same instructions seen through the field codes of 30_encoding.md R84 to R88: one constructor for each
instruction rule's shape, its fields as arguments. `Form.instr` and `Instr.form` (Decode.lean) go between the two. -/
inductive Form where
  | nop
  | ldPairImm (rr : Reg16) (nn : Word)
  | ldPtrA (p : Ptr)
  | incPair (rr : Reg16)
  | incReg (r : Reg8)
  | decReg (r : Reg8)
  | ldRegImm (dst : Reg8) (n : Byte)
  | accRot (op : AccRot)
  | ldAbsSp (nn : Word)
  | addHl (rr : Reg16)
  | ldAPtr (p : Ptr)
  | decPair (rr : Reg16)
  | stop
  | jr (e : Byte)
  | jrCc (cc : Cond) (e : Byte)
  | daa
  | cpl
  | incMem
  | decMem
  | ldMemImm (n : Byte)
  | scf
  | ccf
  | ldRegReg (dst src : Reg8)
  | ldRegMem (dst : Reg8)
  | ldMemReg (r : Reg8)
  | halt
  | aluReg (op : AluOp) (r : Reg8)
  | aluMem (op : AluOp)
  | retCc (cc : Cond)
  | pop (q : RegStk)
  | jpCc (cc : Cond) (nn : Word)
  | jp (nn : Word)
  | callCc (cc : Cond) (nn : Word)
  | push (q : RegStk)
  | aluImm (op : AluOp) (n : Byte)
  | rst (t : Ix8)
  | ret
  | prefixCb
  | call (nn : Word)
  | undefined (u : UndefOp)
  | reti
  | ldPortA (n : Byte)
  | ldPortCA
  | addSpE (e : Byte)
  | jpHl
  | ldAbsA (nn : Word)
  | ldAPort (n : Byte)
  | ldAPortC
  | di
  | ldHlSpE (e : Byte)
  | ldSpHl
  | ldAAbs (nn : Word)
  | ei
  | rotReg (op : RotOp) (r : Reg8)
  | rotMem (op : RotOp)
  | bitReg (b : Ix8) (r : Reg8)
  | bitMem (b : Ix8)
  | resReg (b : Ix8) (r : Reg8)
  | resMem (b : Ix8)
  | setReg (b : Ix8) (r : Reg8)
  | setMem (b : Ix8)
  deriving DecidableEq, Repr

end Sys2Proof
end

