-- ==== Sys2Proof/Decode.lean ====
section
/-! DEFINITION. Instruction bytes to instructions and back. The decoder reads the FIELDS of 30_encoding.md R81, R84 to
R91; the encoder is written from the ROWS of spec/opcode_table.json (R98): the two meet in the round trip. -/

namespace Sys2Proof

/-! ## Rows and their field view -/

/-- The constructor of `Instr` that stands for each value of the fields of `Form.ldPairImm` (R240). -/
def instrOfLdPairImm (rr : Reg16) (nn : Word) : Instr :=
  match rr with
  | .bc => .ld_BC_nn nn
  | .de => .ld_DE_nn nn
  | .hl => .ld_HL_nn nn
  | .sp => .ld_SP_nn nn

/-- The constructor of `Instr` that stands for each value of the fields of `Form.ldPtrA` (R217, R218, R225, R227). -/
def instrOfLdPtrA (p : Ptr) : Instr :=
  match p with
  | .bc => .ld_at_BC_A
  | .de => .ld_at_DE_A
  | .hlInc => .ld_at_HLplus_A
  | .hlDec => .ld_at_HLminus_A

/-- The constructor of `Instr` that stands for each value of the fields of `Form.incPair` (R163). -/
def instrOfIncPair (rr : Reg16) : Instr :=
  match rr with
  | .bc => .inc_BC
  | .de => .inc_DE
  | .hl => .inc_HL
  | .sp => .inc_SP

/-- The constructor of `Instr` that stands for each value of the fields of `Form.incReg` (R140). -/
def instrOfIncReg (r : Reg8) : Instr :=
  match r with
  | .b => .inc_B
  | .c => .inc_C
  | .d => .inc_D
  | .e => .inc_E
  | .h => .inc_H
  | .l => .inc_L
  | .a => .inc_A

/-- The constructor of `Instr` that stands for each value of the fields of `Form.decReg` (R142). -/
def instrOfDecReg (r : Reg8) : Instr :=
  match r with
  | .b => .dec_B
  | .c => .dec_C
  | .d => .dec_D
  | .e => .dec_E
  | .h => .dec_H
  | .l => .dec_L
  | .a => .dec_A

/-- The constructor of `Instr` that stands for each value of the fields of `Form.ldRegImm` (R211). -/
def instrOfLdRegImm (dst : Reg8) (n : Byte) : Instr :=
  match dst with
  | .b => .ld_B_n n
  | .c => .ld_C_n n
  | .d => .ld_D_n n
  | .e => .ld_E_n n
  | .h => .ld_H_n n
  | .l => .ld_L_n n
  | .a => .ld_A_n n

/-- The constructor of `Instr` that stands for each value of the fields of `Form.accRot` (R170, R171, R172, R173). -/
def instrOfAccRot (op : AccRot) : Instr :=
  match op with
  | .rlca => .rlca
  | .rrca => .rrca
  | .rla => .rla
  | .rra => .rra

/-- The constructor of `Instr` that stands for each value of the fields of `Form.addHl` (R161). -/
def instrOfAddHl (rr : Reg16) : Instr :=
  match rr with
  | .bc => .add_HL_BC
  | .de => .add_HL_DE
  | .hl => .add_HL_HL
  | .sp => .add_HL_SP

/-- The constructor of `Instr` that stands for each value of the fields of `Form.ldAPtr` (R215, R216, R226, R228). -/
def instrOfLdAPtr (p : Ptr) : Instr :=
  match p with
  | .bc => .ld_A_at_BC
  | .de => .ld_A_at_DE
  | .hlInc => .ld_A_at_HLplus
  | .hlDec => .ld_A_at_HLminus

/-- The constructor of `Instr` that stands for each value of the fields of `Form.decPair` (R164). -/
def instrOfDecPair (rr : Reg16) : Instr :=
  match rr with
  | .bc => .dec_BC
  | .de => .dec_DE
  | .hl => .dec_HL
  | .sp => .dec_SP

/-- The constructor of `Instr` that stands for each value of the fields of `Form.jrCc` (R264). -/
def instrOfJrCc (cc : Cond) (e : Byte) : Instr :=
  match cc with
  | .nz => .jr_NZ_e e
  | .z => .jr_Z_e e
  | .nc => .jr_NC_e e
  | .c => .jr_C_e e

/-- The constructor of `Instr` that stands for each value of the fields of `Form.ldRegReg` (R210). -/
def instrOfLdRegReg (dst src : Reg8) : Instr :=
  match dst, src with
  | .b, .b => .ld_B_B
  | .b, .c => .ld_B_C
  | .b, .d => .ld_B_D
  | .b, .e => .ld_B_E
  | .b, .h => .ld_B_H
  | .b, .l => .ld_B_L
  | .b, .a => .ld_B_A
  | .c, .b => .ld_C_B
  | .c, .c => .ld_C_C
  | .c, .d => .ld_C_D
  | .c, .e => .ld_C_E
  | .c, .h => .ld_C_H
  | .c, .l => .ld_C_L
  | .c, .a => .ld_C_A
  | .d, .b => .ld_D_B
  | .d, .c => .ld_D_C
  | .d, .d => .ld_D_D
  | .d, .e => .ld_D_E
  | .d, .h => .ld_D_H
  | .d, .l => .ld_D_L
  | .d, .a => .ld_D_A
  | .e, .b => .ld_E_B
  | .e, .c => .ld_E_C
  | .e, .d => .ld_E_D
  | .e, .e => .ld_E_E
  | .e, .h => .ld_E_H
  | .e, .l => .ld_E_L
  | .e, .a => .ld_E_A
  | .h, .b => .ld_H_B
  | .h, .c => .ld_H_C
  | .h, .d => .ld_H_D
  | .h, .e => .ld_H_E
  | .h, .h => .ld_H_H
  | .h, .l => .ld_H_L
  | .h, .a => .ld_H_A
  | .l, .b => .ld_L_B
  | .l, .c => .ld_L_C
  | .l, .d => .ld_L_D
  | .l, .e => .ld_L_E
  | .l, .h => .ld_L_H
  | .l, .l => .ld_L_L
  | .l, .a => .ld_L_A
  | .a, .b => .ld_A_B
  | .a, .c => .ld_A_C
  | .a, .d => .ld_A_D
  | .a, .e => .ld_A_E
  | .a, .h => .ld_A_H
  | .a, .l => .ld_A_L
  | .a, .a => .ld_A_A

/-- The constructor of `Instr` that stands for each value of the fields of `Form.ldRegMem` (R212). -/
def instrOfLdRegMem (dst : Reg8) : Instr :=
  match dst with
  | .b => .ld_B_at_HL
  | .c => .ld_C_at_HL
  | .d => .ld_D_at_HL
  | .e => .ld_E_at_HL
  | .h => .ld_H_at_HL
  | .l => .ld_L_at_HL
  | .a => .ld_A_at_HL

/-- The constructor of `Instr` that stands for each value of the fields of `Form.ldMemReg` (R213). -/
def instrOfLdMemReg (r : Reg8) : Instr :=
  match r with
  | .b => .ld_at_HL_B
  | .c => .ld_at_HL_C
  | .d => .ld_at_HL_D
  | .e => .ld_at_HL_E
  | .h => .ld_at_HL_H
  | .l => .ld_at_HL_L
  | .a => .ld_at_HL_A

/-- The constructor of `Instr` that stands for each value of the fields of `Form.aluReg` (R113, R116, R119, R122, R125, R128, R131, R134). -/
def instrOfAluReg (op : AluOp) (r : Reg8) : Instr :=
  match op, r with
  | .add, .b => .add_A_B
  | .add, .c => .add_A_C
  | .add, .d => .add_A_D
  | .add, .e => .add_A_E
  | .add, .h => .add_A_H
  | .add, .l => .add_A_L
  | .add, .a => .add_A_A
  | .adc, .b => .adc_A_B
  | .adc, .c => .adc_A_C
  | .adc, .d => .adc_A_D
  | .adc, .e => .adc_A_E
  | .adc, .h => .adc_A_H
  | .adc, .l => .adc_A_L
  | .adc, .a => .adc_A_A
  | .sub, .b => .sub_B
  | .sub, .c => .sub_C
  | .sub, .d => .sub_D
  | .sub, .e => .sub_E
  | .sub, .h => .sub_H
  | .sub, .l => .sub_L
  | .sub, .a => .sub_A
  | .sbc, .b => .sbc_A_B
  | .sbc, .c => .sbc_A_C
  | .sbc, .d => .sbc_A_D
  | .sbc, .e => .sbc_A_E
  | .sbc, .h => .sbc_A_H
  | .sbc, .l => .sbc_A_L
  | .sbc, .a => .sbc_A_A
  | .and, .b => .and_B
  | .and, .c => .and_C
  | .and, .d => .and_D
  | .and, .e => .and_E
  | .and, .h => .and_H
  | .and, .l => .and_L
  | .and, .a => .and_A
  | .xor, .b => .xor_B
  | .xor, .c => .xor_C
  | .xor, .d => .xor_D
  | .xor, .e => .xor_E
  | .xor, .h => .xor_H
  | .xor, .l => .xor_L
  | .xor, .a => .xor_A
  | .or, .b => .or_B
  | .or, .c => .or_C
  | .or, .d => .or_D
  | .or, .e => .or_E
  | .or, .h => .or_H
  | .or, .l => .or_L
  | .or, .a => .or_A
  | .cp, .b => .cp_B
  | .cp, .c => .cp_C
  | .cp, .d => .cp_D
  | .cp, .e => .cp_E
  | .cp, .h => .cp_H
  | .cp, .l => .cp_L
  | .cp, .a => .cp_A

/-- The constructor of `Instr` that stands for each value of the fields of `Form.aluMem` (R114, R117, R120, R123, R126, R129, R132, R135). -/
def instrOfAluMem (op : AluOp) : Instr :=
  match op with
  | .add => .add_A_at_HL
  | .adc => .adc_A_at_HL
  | .sub => .sub_at_HL
  | .sbc => .sbc_A_at_HL
  | .and => .and_at_HL
  | .xor => .xor_at_HL
  | .or => .or_at_HL
  | .cp => .cp_at_HL

/-- The constructor of `Instr` that stands for each value of the fields of `Form.retCc` (R271). -/
def instrOfRetCc (cc : Cond) : Instr :=
  match cc with
  | .nz => .ret_NZ
  | .z => .ret_Z
  | .nc => .ret_NC
  | .c => .ret_C

/-- The constructor of `Instr` that stands for each value of the fields of `Form.pop` (R249). -/
def instrOfPop (q : RegStk) : Instr :=
  match q with
  | .bc => .pop_BC
  | .de => .pop_DE
  | .hl => .pop_HL
  | .af => .pop_AF

/-- The constructor of `Instr` that stands for each value of the fields of `Form.jpCc` (R261). -/
def instrOfJpCc (cc : Cond) (nn : Word) : Instr :=
  match cc with
  | .nz => .jp_NZ_nn nn
  | .z => .jp_Z_nn nn
  | .nc => .jp_NC_nn nn
  | .c => .jp_C_nn nn

/-- The constructor of `Instr` that stands for each value of the fields of `Form.callCc` (R266). -/
def instrOfCallCc (cc : Cond) (nn : Word) : Instr :=
  match cc with
  | .nz => .call_NZ_nn nn
  | .z => .call_Z_nn nn
  | .nc => .call_NC_nn nn
  | .c => .call_C_nn nn

/-- The constructor of `Instr` that stands for each value of the fields of `Form.push` (R248). -/
def instrOfPush (q : RegStk) : Instr :=
  match q with
  | .bc => .push_BC
  | .de => .push_DE
  | .hl => .push_HL
  | .af => .push_AF

/-- The constructor of `Instr` that stands for each value of the fields of `Form.aluImm` (R115, R118, R121, R124, R127, R130, R133, R136). -/
def instrOfAluImm (op : AluOp) (n : Byte) : Instr :=
  match op with
  | .add => .add_A_n n
  | .adc => .adc_A_n n
  | .sub => .sub_n n
  | .sbc => .sbc_A_n n
  | .and => .and_n n
  | .xor => .xor_n n
  | .or => .or_n n
  | .cp => .cp_n n

/-- The constructor of `Instr` that stands for each value of the fields of `Form.rst` (R275). -/
def instrOfRst (t : Ix8) : Instr :=
  match t with
  | .i0 => .rst_00
  | .i1 => .rst_08
  | .i2 => .rst_10
  | .i3 => .rst_18
  | .i4 => .rst_20
  | .i5 => .rst_28
  | .i6 => .rst_30
  | .i7 => .rst_38

/-- The constructor of `Instr` that stands for each value of the fields of `Form.undefined` (R286). -/
def instrOfUndefined (u : UndefOp) : Instr :=
  match u with
  | .uD3 => .undefined_D3
  | .uDB => .undefined_DB
  | .uDD => .undefined_DD
  | .uE3 => .undefined_E3
  | .uE4 => .undefined_E4
  | .uEB => .undefined_EB
  | .uEC => .undefined_EC
  | .uED => .undefined_ED
  | .uF4 => .undefined_F4
  | .uFC => .undefined_FC
  | .uFD => .undefined_FD

/-- The constructor of `Instr` that stands for each value of the fields of `Form.rotReg` (R175, R177, R179, R181, R183, R185, R187, R189). -/
def instrOfRotReg (op : RotOp) (r : Reg8) : Instr :=
  match op, r with
  | .rlc, .b => .rlc_B
  | .rlc, .c => .rlc_C
  | .rlc, .d => .rlc_D
  | .rlc, .e => .rlc_E
  | .rlc, .h => .rlc_H
  | .rlc, .l => .rlc_L
  | .rlc, .a => .rlc_A
  | .rrc, .b => .rrc_B
  | .rrc, .c => .rrc_C
  | .rrc, .d => .rrc_D
  | .rrc, .e => .rrc_E
  | .rrc, .h => .rrc_H
  | .rrc, .l => .rrc_L
  | .rrc, .a => .rrc_A
  | .rl, .b => .rl_B
  | .rl, .c => .rl_C
  | .rl, .d => .rl_D
  | .rl, .e => .rl_E
  | .rl, .h => .rl_H
  | .rl, .l => .rl_L
  | .rl, .a => .rl_A
  | .rr, .b => .rr_B
  | .rr, .c => .rr_C
  | .rr, .d => .rr_D
  | .rr, .e => .rr_E
  | .rr, .h => .rr_H
  | .rr, .l => .rr_L
  | .rr, .a => .rr_A
  | .sla, .b => .sla_B
  | .sla, .c => .sla_C
  | .sla, .d => .sla_D
  | .sla, .e => .sla_E
  | .sla, .h => .sla_H
  | .sla, .l => .sla_L
  | .sla, .a => .sla_A
  | .sra, .b => .sra_B
  | .sra, .c => .sra_C
  | .sra, .d => .sra_D
  | .sra, .e => .sra_E
  | .sra, .h => .sra_H
  | .sra, .l => .sra_L
  | .sra, .a => .sra_A
  | .swap, .b => .swap_B
  | .swap, .c => .swap_C
  | .swap, .d => .swap_D
  | .swap, .e => .swap_E
  | .swap, .h => .swap_H
  | .swap, .l => .swap_L
  | .swap, .a => .swap_A
  | .srl, .b => .srl_B
  | .srl, .c => .srl_C
  | .srl, .d => .srl_D
  | .srl, .e => .srl_E
  | .srl, .h => .srl_H
  | .srl, .l => .srl_L
  | .srl, .a => .srl_A

/-- The constructor of `Instr` that stands for each value of the fields of `Form.rotMem` (R176, R178, R180, R182, R184, R186, R188, R190). -/
def instrOfRotMem (op : RotOp) : Instr :=
  match op with
  | .rlc => .rlc_at_HL
  | .rrc => .rrc_at_HL
  | .rl => .rl_at_HL
  | .rr => .rr_at_HL
  | .sla => .sla_at_HL
  | .sra => .sra_at_HL
  | .swap => .swap_at_HL
  | .srl => .srl_at_HL

/-- The constructor of `Instr` that stands for each value of the fields of `Form.bitReg` (R191). -/
def instrOfBitReg (b : Ix8) (r : Reg8) : Instr :=
  match b, r with
  | .i0, .b => .bit_0_B
  | .i0, .c => .bit_0_C
  | .i0, .d => .bit_0_D
  | .i0, .e => .bit_0_E
  | .i0, .h => .bit_0_H
  | .i0, .l => .bit_0_L
  | .i0, .a => .bit_0_A
  | .i1, .b => .bit_1_B
  | .i1, .c => .bit_1_C
  | .i1, .d => .bit_1_D
  | .i1, .e => .bit_1_E
  | .i1, .h => .bit_1_H
  | .i1, .l => .bit_1_L
  | .i1, .a => .bit_1_A
  | .i2, .b => .bit_2_B
  | .i2, .c => .bit_2_C
  | .i2, .d => .bit_2_D
  | .i2, .e => .bit_2_E
  | .i2, .h => .bit_2_H
  | .i2, .l => .bit_2_L
  | .i2, .a => .bit_2_A
  | .i3, .b => .bit_3_B
  | .i3, .c => .bit_3_C
  | .i3, .d => .bit_3_D
  | .i3, .e => .bit_3_E
  | .i3, .h => .bit_3_H
  | .i3, .l => .bit_3_L
  | .i3, .a => .bit_3_A
  | .i4, .b => .bit_4_B
  | .i4, .c => .bit_4_C
  | .i4, .d => .bit_4_D
  | .i4, .e => .bit_4_E
  | .i4, .h => .bit_4_H
  | .i4, .l => .bit_4_L
  | .i4, .a => .bit_4_A
  | .i5, .b => .bit_5_B
  | .i5, .c => .bit_5_C
  | .i5, .d => .bit_5_D
  | .i5, .e => .bit_5_E
  | .i5, .h => .bit_5_H
  | .i5, .l => .bit_5_L
  | .i5, .a => .bit_5_A
  | .i6, .b => .bit_6_B
  | .i6, .c => .bit_6_C
  | .i6, .d => .bit_6_D
  | .i6, .e => .bit_6_E
  | .i6, .h => .bit_6_H
  | .i6, .l => .bit_6_L
  | .i6, .a => .bit_6_A
  | .i7, .b => .bit_7_B
  | .i7, .c => .bit_7_C
  | .i7, .d => .bit_7_D
  | .i7, .e => .bit_7_E
  | .i7, .h => .bit_7_H
  | .i7, .l => .bit_7_L
  | .i7, .a => .bit_7_A

/-- The constructor of `Instr` that stands for each value of the fields of `Form.bitMem` (R192). -/
def instrOfBitMem (b : Ix8) : Instr :=
  match b with
  | .i0 => .bit_0_at_HL
  | .i1 => .bit_1_at_HL
  | .i2 => .bit_2_at_HL
  | .i3 => .bit_3_at_HL
  | .i4 => .bit_4_at_HL
  | .i5 => .bit_5_at_HL
  | .i6 => .bit_6_at_HL
  | .i7 => .bit_7_at_HL

/-- The constructor of `Instr` that stands for each value of the fields of `Form.resReg` (R193). -/
def instrOfResReg (b : Ix8) (r : Reg8) : Instr :=
  match b, r with
  | .i0, .b => .res_0_B
  | .i0, .c => .res_0_C
  | .i0, .d => .res_0_D
  | .i0, .e => .res_0_E
  | .i0, .h => .res_0_H
  | .i0, .l => .res_0_L
  | .i0, .a => .res_0_A
  | .i1, .b => .res_1_B
  | .i1, .c => .res_1_C
  | .i1, .d => .res_1_D
  | .i1, .e => .res_1_E
  | .i1, .h => .res_1_H
  | .i1, .l => .res_1_L
  | .i1, .a => .res_1_A
  | .i2, .b => .res_2_B
  | .i2, .c => .res_2_C
  | .i2, .d => .res_2_D
  | .i2, .e => .res_2_E
  | .i2, .h => .res_2_H
  | .i2, .l => .res_2_L
  | .i2, .a => .res_2_A
  | .i3, .b => .res_3_B
  | .i3, .c => .res_3_C
  | .i3, .d => .res_3_D
  | .i3, .e => .res_3_E
  | .i3, .h => .res_3_H
  | .i3, .l => .res_3_L
  | .i3, .a => .res_3_A
  | .i4, .b => .res_4_B
  | .i4, .c => .res_4_C
  | .i4, .d => .res_4_D
  | .i4, .e => .res_4_E
  | .i4, .h => .res_4_H
  | .i4, .l => .res_4_L
  | .i4, .a => .res_4_A
  | .i5, .b => .res_5_B
  | .i5, .c => .res_5_C
  | .i5, .d => .res_5_D
  | .i5, .e => .res_5_E
  | .i5, .h => .res_5_H
  | .i5, .l => .res_5_L
  | .i5, .a => .res_5_A
  | .i6, .b => .res_6_B
  | .i6, .c => .res_6_C
  | .i6, .d => .res_6_D
  | .i6, .e => .res_6_E
  | .i6, .h => .res_6_H
  | .i6, .l => .res_6_L
  | .i6, .a => .res_6_A
  | .i7, .b => .res_7_B
  | .i7, .c => .res_7_C
  | .i7, .d => .res_7_D
  | .i7, .e => .res_7_E
  | .i7, .h => .res_7_H
  | .i7, .l => .res_7_L
  | .i7, .a => .res_7_A

/-- The constructor of `Instr` that stands for each value of the fields of `Form.resMem` (R194). -/
def instrOfResMem (b : Ix8) : Instr :=
  match b with
  | .i0 => .res_0_at_HL
  | .i1 => .res_1_at_HL
  | .i2 => .res_2_at_HL
  | .i3 => .res_3_at_HL
  | .i4 => .res_4_at_HL
  | .i5 => .res_5_at_HL
  | .i6 => .res_6_at_HL
  | .i7 => .res_7_at_HL

/-- The constructor of `Instr` that stands for each value of the fields of `Form.setReg` (R195). -/
def instrOfSetReg (b : Ix8) (r : Reg8) : Instr :=
  match b, r with
  | .i0, .b => .set_0_B
  | .i0, .c => .set_0_C
  | .i0, .d => .set_0_D
  | .i0, .e => .set_0_E
  | .i0, .h => .set_0_H
  | .i0, .l => .set_0_L
  | .i0, .a => .set_0_A
  | .i1, .b => .set_1_B
  | .i1, .c => .set_1_C
  | .i1, .d => .set_1_D
  | .i1, .e => .set_1_E
  | .i1, .h => .set_1_H
  | .i1, .l => .set_1_L
  | .i1, .a => .set_1_A
  | .i2, .b => .set_2_B
  | .i2, .c => .set_2_C
  | .i2, .d => .set_2_D
  | .i2, .e => .set_2_E
  | .i2, .h => .set_2_H
  | .i2, .l => .set_2_L
  | .i2, .a => .set_2_A
  | .i3, .b => .set_3_B
  | .i3, .c => .set_3_C
  | .i3, .d => .set_3_D
  | .i3, .e => .set_3_E
  | .i3, .h => .set_3_H
  | .i3, .l => .set_3_L
  | .i3, .a => .set_3_A
  | .i4, .b => .set_4_B
  | .i4, .c => .set_4_C
  | .i4, .d => .set_4_D
  | .i4, .e => .set_4_E
  | .i4, .h => .set_4_H
  | .i4, .l => .set_4_L
  | .i4, .a => .set_4_A
  | .i5, .b => .set_5_B
  | .i5, .c => .set_5_C
  | .i5, .d => .set_5_D
  | .i5, .e => .set_5_E
  | .i5, .h => .set_5_H
  | .i5, .l => .set_5_L
  | .i5, .a => .set_5_A
  | .i6, .b => .set_6_B
  | .i6, .c => .set_6_C
  | .i6, .d => .set_6_D
  | .i6, .e => .set_6_E
  | .i6, .h => .set_6_H
  | .i6, .l => .set_6_L
  | .i6, .a => .set_6_A
  | .i7, .b => .set_7_B
  | .i7, .c => .set_7_C
  | .i7, .d => .set_7_D
  | .i7, .e => .set_7_E
  | .i7, .h => .set_7_H
  | .i7, .l => .set_7_L
  | .i7, .a => .set_7_A

/-- The constructor of `Instr` that stands for each value of the fields of `Form.setMem` (R196). -/
def instrOfSetMem (b : Ix8) : Instr :=
  match b with
  | .i0 => .set_0_at_HL
  | .i1 => .set_1_at_HL
  | .i2 => .set_2_at_HL
  | .i3 => .set_3_at_HL
  | .i4 => .set_4_at_HL
  | .i5 => .set_5_at_HL
  | .i6 => .set_6_at_HL
  | .i7 => .set_7_at_HL

/-- The instruction that a form stands for (30_encoding.md R84 to R91). -/
def Form.instr (f : Form) : Instr :=
  match f with
  | .nop => .nop
  | .ldPairImm rr nn => instrOfLdPairImm rr nn
  | .ldPtrA p => instrOfLdPtrA p
  | .incPair rr => instrOfIncPair rr
  | .incReg r => instrOfIncReg r
  | .decReg r => instrOfDecReg r
  | .ldRegImm dst n => instrOfLdRegImm dst n
  | .accRot op => instrOfAccRot op
  | .ldAbsSp nn => .ld_at_nn_SP nn
  | .addHl rr => instrOfAddHl rr
  | .ldAPtr p => instrOfLdAPtr p
  | .decPair rr => instrOfDecPair rr
  | .stop => .stop
  | .jr e => .jr_e e
  | .jrCc cc e => instrOfJrCc cc e
  | .daa => .daa
  | .cpl => .cpl
  | .incMem => .inc_at_HL
  | .decMem => .dec_at_HL
  | .ldMemImm n => .ld_at_HL_n n
  | .scf => .scf
  | .ccf => .ccf
  | .ldRegReg dst src => instrOfLdRegReg dst src
  | .ldRegMem dst => instrOfLdRegMem dst
  | .ldMemReg r => instrOfLdMemReg r
  | .halt => .halt
  | .aluReg op r => instrOfAluReg op r
  | .aluMem op => instrOfAluMem op
  | .retCc cc => instrOfRetCc cc
  | .pop q => instrOfPop q
  | .jpCc cc nn => instrOfJpCc cc nn
  | .jp nn => .jp_nn nn
  | .callCc cc nn => instrOfCallCc cc nn
  | .push q => instrOfPush q
  | .aluImm op n => instrOfAluImm op n
  | .rst t => instrOfRst t
  | .ret => .ret
  | .prefixCb => .prefix_CB
  | .call nn => .call_nn nn
  | .undefined u => instrOfUndefined u
  | .reti => .reti
  | .ldPortA n => .ldh_at_n_A n
  | .ldPortCA => .ld_at_C_A
  | .addSpE e => .add_SP_e e
  | .jpHl => .jp_HL
  | .ldAbsA nn => .ld_at_nn_A nn
  | .ldAPort n => .ldh_A_at_n n
  | .ldAPortC => .ld_A_at_C
  | .di => .di
  | .ldHlSpE e => .ld_HL_SPpluse e
  | .ldSpHl => .ld_SP_HL
  | .ldAAbs nn => .ld_A_at_nn nn
  | .ei => .ei
  | .rotReg op r => instrOfRotReg op r
  | .rotMem op => instrOfRotMem op
  | .bitReg b r => instrOfBitReg b r
  | .bitMem b => instrOfBitMem b
  | .resReg b r => instrOfResReg b r
  | .resMem b => instrOfResMem b
  | .setReg b r => instrOfSetReg b r
  | .setMem b => instrOfSetMem b

/-- The field view of each row: the table's own fields (R98) read from its mnemonic. -/
def Instr.form (i : Instr) : Form :=
  match i with
  | .nop => .nop
  | .ld_BC_nn nn => .ldPairImm .bc nn
  | .ld_at_BC_A => .ldPtrA .bc
  | .inc_BC => .incPair .bc
  | .inc_B => .incReg .b
  | .dec_B => .decReg .b
  | .ld_B_n n => .ldRegImm .b n
  | .rlca => .accRot .rlca
  | .ld_at_nn_SP nn => .ldAbsSp nn
  | .add_HL_BC => .addHl .bc
  | .ld_A_at_BC => .ldAPtr .bc
  | .dec_BC => .decPair .bc
  | .inc_C => .incReg .c
  | .dec_C => .decReg .c
  | .ld_C_n n => .ldRegImm .c n
  | .rrca => .accRot .rrca
  | .stop => .stop
  | .ld_DE_nn nn => .ldPairImm .de nn
  | .ld_at_DE_A => .ldPtrA .de
  | .inc_DE => .incPair .de
  | .inc_D => .incReg .d
  | .dec_D => .decReg .d
  | .ld_D_n n => .ldRegImm .d n
  | .rla => .accRot .rla
  | .jr_e e => .jr e
  | .add_HL_DE => .addHl .de
  | .ld_A_at_DE => .ldAPtr .de
  | .dec_DE => .decPair .de
  | .inc_E => .incReg .e
  | .dec_E => .decReg .e
  | .ld_E_n n => .ldRegImm .e n
  | .rra => .accRot .rra
  | .jr_NZ_e e => .jrCc .nz e
  | .ld_HL_nn nn => .ldPairImm .hl nn
  | .ld_at_HLplus_A => .ldPtrA .hlInc
  | .inc_HL => .incPair .hl
  | .inc_H => .incReg .h
  | .dec_H => .decReg .h
  | .ld_H_n n => .ldRegImm .h n
  | .daa => .daa
  | .jr_Z_e e => .jrCc .z e
  | .add_HL_HL => .addHl .hl
  | .ld_A_at_HLplus => .ldAPtr .hlInc
  | .dec_HL => .decPair .hl
  | .inc_L => .incReg .l
  | .dec_L => .decReg .l
  | .ld_L_n n => .ldRegImm .l n
  | .cpl => .cpl
  | .jr_NC_e e => .jrCc .nc e
  | .ld_SP_nn nn => .ldPairImm .sp nn
  | .ld_at_HLminus_A => .ldPtrA .hlDec
  | .inc_SP => .incPair .sp
  | .inc_at_HL => .incMem
  | .dec_at_HL => .decMem
  | .ld_at_HL_n n => .ldMemImm n
  | .scf => .scf
  | .jr_C_e e => .jrCc .c e
  | .add_HL_SP => .addHl .sp
  | .ld_A_at_HLminus => .ldAPtr .hlDec
  | .dec_SP => .decPair .sp
  | .inc_A => .incReg .a
  | .dec_A => .decReg .a
  | .ld_A_n n => .ldRegImm .a n
  | .ccf => .ccf
  | .ld_B_B => .ldRegReg .b .b
  | .ld_B_C => .ldRegReg .b .c
  | .ld_B_D => .ldRegReg .b .d
  | .ld_B_E => .ldRegReg .b .e
  | .ld_B_H => .ldRegReg .b .h
  | .ld_B_L => .ldRegReg .b .l
  | .ld_B_at_HL => .ldRegMem .b
  | .ld_B_A => .ldRegReg .b .a
  | .ld_C_B => .ldRegReg .c .b
  | .ld_C_C => .ldRegReg .c .c
  | .ld_C_D => .ldRegReg .c .d
  | .ld_C_E => .ldRegReg .c .e
  | .ld_C_H => .ldRegReg .c .h
  | .ld_C_L => .ldRegReg .c .l
  | .ld_C_at_HL => .ldRegMem .c
  | .ld_C_A => .ldRegReg .c .a
  | .ld_D_B => .ldRegReg .d .b
  | .ld_D_C => .ldRegReg .d .c
  | .ld_D_D => .ldRegReg .d .d
  | .ld_D_E => .ldRegReg .d .e
  | .ld_D_H => .ldRegReg .d .h
  | .ld_D_L => .ldRegReg .d .l
  | .ld_D_at_HL => .ldRegMem .d
  | .ld_D_A => .ldRegReg .d .a
  | .ld_E_B => .ldRegReg .e .b
  | .ld_E_C => .ldRegReg .e .c
  | .ld_E_D => .ldRegReg .e .d
  | .ld_E_E => .ldRegReg .e .e
  | .ld_E_H => .ldRegReg .e .h
  | .ld_E_L => .ldRegReg .e .l
  | .ld_E_at_HL => .ldRegMem .e
  | .ld_E_A => .ldRegReg .e .a
  | .ld_H_B => .ldRegReg .h .b
  | .ld_H_C => .ldRegReg .h .c
  | .ld_H_D => .ldRegReg .h .d
  | .ld_H_E => .ldRegReg .h .e
  | .ld_H_H => .ldRegReg .h .h
  | .ld_H_L => .ldRegReg .h .l
  | .ld_H_at_HL => .ldRegMem .h
  | .ld_H_A => .ldRegReg .h .a
  | .ld_L_B => .ldRegReg .l .b
  | .ld_L_C => .ldRegReg .l .c
  | .ld_L_D => .ldRegReg .l .d
  | .ld_L_E => .ldRegReg .l .e
  | .ld_L_H => .ldRegReg .l .h
  | .ld_L_L => .ldRegReg .l .l
  | .ld_L_at_HL => .ldRegMem .l
  | .ld_L_A => .ldRegReg .l .a
  | .ld_at_HL_B => .ldMemReg .b
  | .ld_at_HL_C => .ldMemReg .c
  | .ld_at_HL_D => .ldMemReg .d
  | .ld_at_HL_E => .ldMemReg .e
  | .ld_at_HL_H => .ldMemReg .h
  | .ld_at_HL_L => .ldMemReg .l
  | .halt => .halt
  | .ld_at_HL_A => .ldMemReg .a
  | .ld_A_B => .ldRegReg .a .b
  | .ld_A_C => .ldRegReg .a .c
  | .ld_A_D => .ldRegReg .a .d
  | .ld_A_E => .ldRegReg .a .e
  | .ld_A_H => .ldRegReg .a .h
  | .ld_A_L => .ldRegReg .a .l
  | .ld_A_at_HL => .ldRegMem .a
  | .ld_A_A => .ldRegReg .a .a
  | .add_A_B => .aluReg .add .b
  | .add_A_C => .aluReg .add .c
  | .add_A_D => .aluReg .add .d
  | .add_A_E => .aluReg .add .e
  | .add_A_H => .aluReg .add .h
  | .add_A_L => .aluReg .add .l
  | .add_A_at_HL => .aluMem .add
  | .add_A_A => .aluReg .add .a
  | .adc_A_B => .aluReg .adc .b
  | .adc_A_C => .aluReg .adc .c
  | .adc_A_D => .aluReg .adc .d
  | .adc_A_E => .aluReg .adc .e
  | .adc_A_H => .aluReg .adc .h
  | .adc_A_L => .aluReg .adc .l
  | .adc_A_at_HL => .aluMem .adc
  | .adc_A_A => .aluReg .adc .a
  | .sub_B => .aluReg .sub .b
  | .sub_C => .aluReg .sub .c
  | .sub_D => .aluReg .sub .d
  | .sub_E => .aluReg .sub .e
  | .sub_H => .aluReg .sub .h
  | .sub_L => .aluReg .sub .l
  | .sub_at_HL => .aluMem .sub
  | .sub_A => .aluReg .sub .a
  | .sbc_A_B => .aluReg .sbc .b
  | .sbc_A_C => .aluReg .sbc .c
  | .sbc_A_D => .aluReg .sbc .d
  | .sbc_A_E => .aluReg .sbc .e
  | .sbc_A_H => .aluReg .sbc .h
  | .sbc_A_L => .aluReg .sbc .l
  | .sbc_A_at_HL => .aluMem .sbc
  | .sbc_A_A => .aluReg .sbc .a
  | .and_B => .aluReg .and .b
  | .and_C => .aluReg .and .c
  | .and_D => .aluReg .and .d
  | .and_E => .aluReg .and .e
  | .and_H => .aluReg .and .h
  | .and_L => .aluReg .and .l
  | .and_at_HL => .aluMem .and
  | .and_A => .aluReg .and .a
  | .xor_B => .aluReg .xor .b
  | .xor_C => .aluReg .xor .c
  | .xor_D => .aluReg .xor .d
  | .xor_E => .aluReg .xor .e
  | .xor_H => .aluReg .xor .h
  | .xor_L => .aluReg .xor .l
  | .xor_at_HL => .aluMem .xor
  | .xor_A => .aluReg .xor .a
  | .or_B => .aluReg .or .b
  | .or_C => .aluReg .or .c
  | .or_D => .aluReg .or .d
  | .or_E => .aluReg .or .e
  | .or_H => .aluReg .or .h
  | .or_L => .aluReg .or .l
  | .or_at_HL => .aluMem .or
  | .or_A => .aluReg .or .a
  | .cp_B => .aluReg .cp .b
  | .cp_C => .aluReg .cp .c
  | .cp_D => .aluReg .cp .d
  | .cp_E => .aluReg .cp .e
  | .cp_H => .aluReg .cp .h
  | .cp_L => .aluReg .cp .l
  | .cp_at_HL => .aluMem .cp
  | .cp_A => .aluReg .cp .a
  | .ret_NZ => .retCc .nz
  | .pop_BC => .pop .bc
  | .jp_NZ_nn nn => .jpCc .nz nn
  | .jp_nn nn => .jp nn
  | .call_NZ_nn nn => .callCc .nz nn
  | .push_BC => .push .bc
  | .add_A_n n => .aluImm .add n
  | .rst_00 => .rst .i0
  | .ret_Z => .retCc .z
  | .ret => .ret
  | .jp_Z_nn nn => .jpCc .z nn
  | .prefix_CB => .prefixCb
  | .call_Z_nn nn => .callCc .z nn
  | .call_nn nn => .call nn
  | .adc_A_n n => .aluImm .adc n
  | .rst_08 => .rst .i1
  | .ret_NC => .retCc .nc
  | .pop_DE => .pop .de
  | .jp_NC_nn nn => .jpCc .nc nn
  | .undefined_D3 => .undefined .uD3
  | .call_NC_nn nn => .callCc .nc nn
  | .push_DE => .push .de
  | .sub_n n => .aluImm .sub n
  | .rst_10 => .rst .i2
  | .ret_C => .retCc .c
  | .reti => .reti
  | .jp_C_nn nn => .jpCc .c nn
  | .undefined_DB => .undefined .uDB
  | .call_C_nn nn => .callCc .c nn
  | .undefined_DD => .undefined .uDD
  | .sbc_A_n n => .aluImm .sbc n
  | .rst_18 => .rst .i3
  | .ldh_at_n_A n => .ldPortA n
  | .pop_HL => .pop .hl
  | .ld_at_C_A => .ldPortCA
  | .undefined_E3 => .undefined .uE3
  | .undefined_E4 => .undefined .uE4
  | .push_HL => .push .hl
  | .and_n n => .aluImm .and n
  | .rst_20 => .rst .i4
  | .add_SP_e e => .addSpE e
  | .jp_HL => .jpHl
  | .ld_at_nn_A nn => .ldAbsA nn
  | .undefined_EB => .undefined .uEB
  | .undefined_EC => .undefined .uEC
  | .undefined_ED => .undefined .uED
  | .xor_n n => .aluImm .xor n
  | .rst_28 => .rst .i5
  | .ldh_A_at_n n => .ldAPort n
  | .pop_AF => .pop .af
  | .ld_A_at_C => .ldAPortC
  | .di => .di
  | .undefined_F4 => .undefined .uF4
  | .push_AF => .push .af
  | .or_n n => .aluImm .or n
  | .rst_30 => .rst .i6
  | .ld_HL_SPpluse e => .ldHlSpE e
  | .ld_SP_HL => .ldSpHl
  | .ld_A_at_nn nn => .ldAAbs nn
  | .ei => .ei
  | .undefined_FC => .undefined .uFC
  | .undefined_FD => .undefined .uFD
  | .cp_n n => .aluImm .cp n
  | .rst_38 => .rst .i7
  | .rlc_B => .rotReg .rlc .b
  | .rlc_C => .rotReg .rlc .c
  | .rlc_D => .rotReg .rlc .d
  | .rlc_E => .rotReg .rlc .e
  | .rlc_H => .rotReg .rlc .h
  | .rlc_L => .rotReg .rlc .l
  | .rlc_at_HL => .rotMem .rlc
  | .rlc_A => .rotReg .rlc .a
  | .rrc_B => .rotReg .rrc .b
  | .rrc_C => .rotReg .rrc .c
  | .rrc_D => .rotReg .rrc .d
  | .rrc_E => .rotReg .rrc .e
  | .rrc_H => .rotReg .rrc .h
  | .rrc_L => .rotReg .rrc .l
  | .rrc_at_HL => .rotMem .rrc
  | .rrc_A => .rotReg .rrc .a
  | .rl_B => .rotReg .rl .b
  | .rl_C => .rotReg .rl .c
  | .rl_D => .rotReg .rl .d
  | .rl_E => .rotReg .rl .e
  | .rl_H => .rotReg .rl .h
  | .rl_L => .rotReg .rl .l
  | .rl_at_HL => .rotMem .rl
  | .rl_A => .rotReg .rl .a
  | .rr_B => .rotReg .rr .b
  | .rr_C => .rotReg .rr .c
  | .rr_D => .rotReg .rr .d
  | .rr_E => .rotReg .rr .e
  | .rr_H => .rotReg .rr .h
  | .rr_L => .rotReg .rr .l
  | .rr_at_HL => .rotMem .rr
  | .rr_A => .rotReg .rr .a
  | .sla_B => .rotReg .sla .b
  | .sla_C => .rotReg .sla .c
  | .sla_D => .rotReg .sla .d
  | .sla_E => .rotReg .sla .e
  | .sla_H => .rotReg .sla .h
  | .sla_L => .rotReg .sla .l
  | .sla_at_HL => .rotMem .sla
  | .sla_A => .rotReg .sla .a
  | .sra_B => .rotReg .sra .b
  | .sra_C => .rotReg .sra .c
  | .sra_D => .rotReg .sra .d
  | .sra_E => .rotReg .sra .e
  | .sra_H => .rotReg .sra .h
  | .sra_L => .rotReg .sra .l
  | .sra_at_HL => .rotMem .sra
  | .sra_A => .rotReg .sra .a
  | .swap_B => .rotReg .swap .b
  | .swap_C => .rotReg .swap .c
  | .swap_D => .rotReg .swap .d
  | .swap_E => .rotReg .swap .e
  | .swap_H => .rotReg .swap .h
  | .swap_L => .rotReg .swap .l
  | .swap_at_HL => .rotMem .swap
  | .swap_A => .rotReg .swap .a
  | .srl_B => .rotReg .srl .b
  | .srl_C => .rotReg .srl .c
  | .srl_D => .rotReg .srl .d
  | .srl_E => .rotReg .srl .e
  | .srl_H => .rotReg .srl .h
  | .srl_L => .rotReg .srl .l
  | .srl_at_HL => .rotMem .srl
  | .srl_A => .rotReg .srl .a
  | .bit_0_B => .bitReg .i0 .b
  | .bit_0_C => .bitReg .i0 .c
  | .bit_0_D => .bitReg .i0 .d
  | .bit_0_E => .bitReg .i0 .e
  | .bit_0_H => .bitReg .i0 .h
  | .bit_0_L => .bitReg .i0 .l
  | .bit_0_at_HL => .bitMem .i0
  | .bit_0_A => .bitReg .i0 .a
  | .bit_1_B => .bitReg .i1 .b
  | .bit_1_C => .bitReg .i1 .c
  | .bit_1_D => .bitReg .i1 .d
  | .bit_1_E => .bitReg .i1 .e
  | .bit_1_H => .bitReg .i1 .h
  | .bit_1_L => .bitReg .i1 .l
  | .bit_1_at_HL => .bitMem .i1
  | .bit_1_A => .bitReg .i1 .a
  | .bit_2_B => .bitReg .i2 .b
  | .bit_2_C => .bitReg .i2 .c
  | .bit_2_D => .bitReg .i2 .d
  | .bit_2_E => .bitReg .i2 .e
  | .bit_2_H => .bitReg .i2 .h
  | .bit_2_L => .bitReg .i2 .l
  | .bit_2_at_HL => .bitMem .i2
  | .bit_2_A => .bitReg .i2 .a
  | .bit_3_B => .bitReg .i3 .b
  | .bit_3_C => .bitReg .i3 .c
  | .bit_3_D => .bitReg .i3 .d
  | .bit_3_E => .bitReg .i3 .e
  | .bit_3_H => .bitReg .i3 .h
  | .bit_3_L => .bitReg .i3 .l
  | .bit_3_at_HL => .bitMem .i3
  | .bit_3_A => .bitReg .i3 .a
  | .bit_4_B => .bitReg .i4 .b
  | .bit_4_C => .bitReg .i4 .c
  | .bit_4_D => .bitReg .i4 .d
  | .bit_4_E => .bitReg .i4 .e
  | .bit_4_H => .bitReg .i4 .h
  | .bit_4_L => .bitReg .i4 .l
  | .bit_4_at_HL => .bitMem .i4
  | .bit_4_A => .bitReg .i4 .a
  | .bit_5_B => .bitReg .i5 .b
  | .bit_5_C => .bitReg .i5 .c
  | .bit_5_D => .bitReg .i5 .d
  | .bit_5_E => .bitReg .i5 .e
  | .bit_5_H => .bitReg .i5 .h
  | .bit_5_L => .bitReg .i5 .l
  | .bit_5_at_HL => .bitMem .i5
  | .bit_5_A => .bitReg .i5 .a
  | .bit_6_B => .bitReg .i6 .b
  | .bit_6_C => .bitReg .i6 .c
  | .bit_6_D => .bitReg .i6 .d
  | .bit_6_E => .bitReg .i6 .e
  | .bit_6_H => .bitReg .i6 .h
  | .bit_6_L => .bitReg .i6 .l
  | .bit_6_at_HL => .bitMem .i6
  | .bit_6_A => .bitReg .i6 .a
  | .bit_7_B => .bitReg .i7 .b
  | .bit_7_C => .bitReg .i7 .c
  | .bit_7_D => .bitReg .i7 .d
  | .bit_7_E => .bitReg .i7 .e
  | .bit_7_H => .bitReg .i7 .h
  | .bit_7_L => .bitReg .i7 .l
  | .bit_7_at_HL => .bitMem .i7
  | .bit_7_A => .bitReg .i7 .a
  | .res_0_B => .resReg .i0 .b
  | .res_0_C => .resReg .i0 .c
  | .res_0_D => .resReg .i0 .d
  | .res_0_E => .resReg .i0 .e
  | .res_0_H => .resReg .i0 .h
  | .res_0_L => .resReg .i0 .l
  | .res_0_at_HL => .resMem .i0
  | .res_0_A => .resReg .i0 .a
  | .res_1_B => .resReg .i1 .b
  | .res_1_C => .resReg .i1 .c
  | .res_1_D => .resReg .i1 .d
  | .res_1_E => .resReg .i1 .e
  | .res_1_H => .resReg .i1 .h
  | .res_1_L => .resReg .i1 .l
  | .res_1_at_HL => .resMem .i1
  | .res_1_A => .resReg .i1 .a
  | .res_2_B => .resReg .i2 .b
  | .res_2_C => .resReg .i2 .c
  | .res_2_D => .resReg .i2 .d
  | .res_2_E => .resReg .i2 .e
  | .res_2_H => .resReg .i2 .h
  | .res_2_L => .resReg .i2 .l
  | .res_2_at_HL => .resMem .i2
  | .res_2_A => .resReg .i2 .a
  | .res_3_B => .resReg .i3 .b
  | .res_3_C => .resReg .i3 .c
  | .res_3_D => .resReg .i3 .d
  | .res_3_E => .resReg .i3 .e
  | .res_3_H => .resReg .i3 .h
  | .res_3_L => .resReg .i3 .l
  | .res_3_at_HL => .resMem .i3
  | .res_3_A => .resReg .i3 .a
  | .res_4_B => .resReg .i4 .b
  | .res_4_C => .resReg .i4 .c
  | .res_4_D => .resReg .i4 .d
  | .res_4_E => .resReg .i4 .e
  | .res_4_H => .resReg .i4 .h
  | .res_4_L => .resReg .i4 .l
  | .res_4_at_HL => .resMem .i4
  | .res_4_A => .resReg .i4 .a
  | .res_5_B => .resReg .i5 .b
  | .res_5_C => .resReg .i5 .c
  | .res_5_D => .resReg .i5 .d
  | .res_5_E => .resReg .i5 .e
  | .res_5_H => .resReg .i5 .h
  | .res_5_L => .resReg .i5 .l
  | .res_5_at_HL => .resMem .i5
  | .res_5_A => .resReg .i5 .a
  | .res_6_B => .resReg .i6 .b
  | .res_6_C => .resReg .i6 .c
  | .res_6_D => .resReg .i6 .d
  | .res_6_E => .resReg .i6 .e
  | .res_6_H => .resReg .i6 .h
  | .res_6_L => .resReg .i6 .l
  | .res_6_at_HL => .resMem .i6
  | .res_6_A => .resReg .i6 .a
  | .res_7_B => .resReg .i7 .b
  | .res_7_C => .resReg .i7 .c
  | .res_7_D => .resReg .i7 .d
  | .res_7_E => .resReg .i7 .e
  | .res_7_H => .resReg .i7 .h
  | .res_7_L => .resReg .i7 .l
  | .res_7_at_HL => .resMem .i7
  | .res_7_A => .resReg .i7 .a
  | .set_0_B => .setReg .i0 .b
  | .set_0_C => .setReg .i0 .c
  | .set_0_D => .setReg .i0 .d
  | .set_0_E => .setReg .i0 .e
  | .set_0_H => .setReg .i0 .h
  | .set_0_L => .setReg .i0 .l
  | .set_0_at_HL => .setMem .i0
  | .set_0_A => .setReg .i0 .a
  | .set_1_B => .setReg .i1 .b
  | .set_1_C => .setReg .i1 .c
  | .set_1_D => .setReg .i1 .d
  | .set_1_E => .setReg .i1 .e
  | .set_1_H => .setReg .i1 .h
  | .set_1_L => .setReg .i1 .l
  | .set_1_at_HL => .setMem .i1
  | .set_1_A => .setReg .i1 .a
  | .set_2_B => .setReg .i2 .b
  | .set_2_C => .setReg .i2 .c
  | .set_2_D => .setReg .i2 .d
  | .set_2_E => .setReg .i2 .e
  | .set_2_H => .setReg .i2 .h
  | .set_2_L => .setReg .i2 .l
  | .set_2_at_HL => .setMem .i2
  | .set_2_A => .setReg .i2 .a
  | .set_3_B => .setReg .i3 .b
  | .set_3_C => .setReg .i3 .c
  | .set_3_D => .setReg .i3 .d
  | .set_3_E => .setReg .i3 .e
  | .set_3_H => .setReg .i3 .h
  | .set_3_L => .setReg .i3 .l
  | .set_3_at_HL => .setMem .i3
  | .set_3_A => .setReg .i3 .a
  | .set_4_B => .setReg .i4 .b
  | .set_4_C => .setReg .i4 .c
  | .set_4_D => .setReg .i4 .d
  | .set_4_E => .setReg .i4 .e
  | .set_4_H => .setReg .i4 .h
  | .set_4_L => .setReg .i4 .l
  | .set_4_at_HL => .setMem .i4
  | .set_4_A => .setReg .i4 .a
  | .set_5_B => .setReg .i5 .b
  | .set_5_C => .setReg .i5 .c
  | .set_5_D => .setReg .i5 .d
  | .set_5_E => .setReg .i5 .e
  | .set_5_H => .setReg .i5 .h
  | .set_5_L => .setReg .i5 .l
  | .set_5_at_HL => .setMem .i5
  | .set_5_A => .setReg .i5 .a
  | .set_6_B => .setReg .i6 .b
  | .set_6_C => .setReg .i6 .c
  | .set_6_D => .setReg .i6 .d
  | .set_6_E => .setReg .i6 .e
  | .set_6_H => .setReg .i6 .h
  | .set_6_L => .setReg .i6 .l
  | .set_6_at_HL => .setMem .i6
  | .set_6_A => .setReg .i6 .a
  | .set_7_B => .setReg .i7 .b
  | .set_7_C => .setReg .i7 .c
  | .set_7_D => .setReg .i7 .d
  | .set_7_E => .setReg .i7 .e
  | .set_7_H => .setReg .i7 .h
  | .set_7_L => .setReg .i7 .l
  | .set_7_at_HL => .setMem .i7
  | .set_7_A => .setReg .i7 .a

/-! ## Fields of an opcode byte (30_encoding.md R81) -/

/-- `x = op[7:6]`, the quadrant. -/
def fieldX (op : Byte) : Nat := (op.extractLsb' 6 2).toNat

/-- `y = op[5:3]`. -/
def fieldY (op : Byte) : Nat := (op.extractLsb' 3 3).toNat

/-- `z = op[2:0]`. -/
def fieldZ (op : Byte) : Nat := (op.extractLsb' 0 3).toNat

/-- `p = op[5:4]`. -/
def fieldP (op : Byte) : Nat := (op.extractLsb' 4 2).toNat

/-- `q = op[3]`. -/
def fieldQ (op : Byte) : Nat := (op.extractLsb' 3 1).toNat

/-- `cc = op[4:3]`. -/
def fieldCC (op : Byte) : Nat := (op.extractLsb' 3 2).toNat

/-- `r8[i]` (30_encoding.md R84): a register, or `none` for index 6, the byte at `HL`. -/
def r8 (i : Nat) : Option Reg8 :=
  match i with
  | 0 => some .b
  | 1 => some .c
  | 2 => some .d
  | 3 => some .e
  | 4 => some .h
  | 5 => some .l
  | 6 => none
  | _ => some .a

/-- `r16[i]` (30_encoding.md R85). -/
def r16 (i : Nat) : Reg16 :=
  match i with
  | 0 => .bc
  | 1 => .de
  | 2 => .hl
  | _ => .sp

/-- `r16stk[i]` (30_encoding.md R86). -/
def r16stk (i : Nat) : RegStk :=
  match i with
  | 0 => .bc
  | 1 => .de
  | 2 => .hl
  | _ => .af

/-- The pair operand of the accumulator loads, x=0 z=2 (30_encoding.md R90). -/
def ptrOf (i : Nat) : Ptr :=
  match i with
  | 0 => .bc
  | 1 => .de
  | 2 => .hlInc
  | _ => .hlDec

/-- `cond[i]` (30_encoding.md R87). -/
def condOf (i : Nat) : Cond :=
  match i with
  | 0 => .nz
  | 1 => .z
  | 2 => .nc
  | _ => .c

/-- The ALU operation index (30_encoding.md R88). -/
def aluOf (i : Nat) : AluOp :=
  match i with
  | 0 => .add
  | 1 => .adc
  | 2 => .sub
  | 3 => .sbc
  | 4 => .and
  | 5 => .xor
  | 6 => .or
  | _ => .cp

/-- The rotate and shift index of the secondary table (30_encoding.md R88). -/
def rotOf (i : Nat) : RotOp :=
  match i with
  | 0 => .rlc
  | 1 => .rrc
  | 2 => .rl
  | 3 => .rr
  | 4 => .sla
  | 5 => .sra
  | 6 => .swap
  | _ => .srl

/-- A 3-bit field as an index (30_encoding.md R88). -/
def ix8 (i : Nat) : Ix8 :=
  match i with
  | 0 => .i0
  | 1 => .i1
  | 2 => .i2
  | 3 => .i3
  | 4 => .i4
  | 5 => .i5
  | 6 => .i6
  | _ => .i7

/-- The number an index stands for (30_encoding.md R88). -/
def Ix8.toNat (i : Ix8) : Nat :=
  match i with
  | .i0 => 0
  | .i1 => 1
  | .i2 => 2
  | .i3 => 3
  | .i4 => 4
  | .i5 => 5
  | .i6 => 6
  | .i7 => 7

/-- The byte value of an undefined opcode (30_encoding.md R93). -/
def UndefOp.byte (u : UndefOp) : Byte :=
  match u with
  | .uD3 => 0xD3
  | .uDB => 0xDB
  | .uDD => 0xDD
  | .uE3 => 0xE3
  | .uE4 => 0xE4
  | .uEB => 0xEB
  | .uEC => 0xEC
  | .uED => 0xED
  | .uF4 => 0xF4
  | .uFC => 0xFC
  | .uFD => 0xFD

/-! ## Formats and lengths -/

/-- What follows the opcode byte (30_encoding.md R81). -/
inductive Format where
  /-- `OP`: nothing. -/
  | bare
  /-- `OP n`, `OP e`: one byte. -/
  | imm8
  /-- `OP nn`: two bytes, the low byte first. -/
  | imm16
  /-- `CB op2`: the second opcode byte. -/
  | secondByte
  /-- `STOP`: a byte that belongs to the instruction only when it is 0x00. -/
  | stop
  deriving DecidableEq, Repr

/-- The format of a primary table entry, by its fields (30_encoding.md R81, R90). -/
def formatOf (op : Byte) : Format :=
  match fieldX op with
  | 0 =>
    match fieldZ op with
    | 0 => if fieldY op = 1 then .imm16 else if fieldY op = 2 then .stop else if 3 ≤ fieldY op then .imm8 else .bare
    | 1 => if fieldQ op = 0 then .imm16 else .bare
    | 6 => .imm8
    | _ => .bare
  | 1 => .bare
  | 2 => .bare
  | _ =>
    match fieldZ op with
    | 0 => if 4 ≤ fieldY op then .imm8 else .bare
    | 2 => if fieldY op < 4 then .imm16 else if fieldQ op = 1 then .imm16 else .bare
    | 3 => if fieldY op = 0 then .imm16 else if fieldY op = 1 then .secondByte else .bare
    | 4 => if fieldY op < 4 then .imm16 else .bare
    | 5 => if fieldY op = 1 then .imm16 else .bare
    | 6 => .imm8
    | _ => .bare

/-- How many bytes a step fetches, from the opcode byte alone, before it carries out the operation (30_encoding.md R80,
R82). The byte after `STOP` is not among them: 46_system.md R282's operation looks at it and consumes
it. -/
def fetchLength (op : Byte) : Nat :=
  match formatOf op with
  | .bare => 1
  | .imm8 => 2
  | .imm16 => 3
  | .secondByte => 2
  | .stop => 1

/-- The length of an instruction, from its first byte and, for `STOP` alone, the byte after it (30_encoding.md R95). Where
the bytes end after 0x10 there is no zero byte, and the length is 1 (log 13). -/
def lengthOf (op : Byte) (tail : List Byte) : Nat :=
  if formatOf op = .stop ∧ tail.head? = some 0x00 then 2 else fetchLength op

/-! ## The two opcode maps by fields -/

/-- Quadrant 0 of the primary table (30_encoding.md R90); `n` and `nn` are the immediate where the format has one. -/
def decodeX0 (op n : Byte) (nn : Word) : Form :=
  match fieldZ op with
  | 0 =>
    match fieldY op with
    | 0 => .nop
    | 1 => .ldAbsSp nn
    | 2 => .stop
    | 3 => .jr n
    | _ => .jrCc (condOf (fieldY op - 4)) n
  | 1 => if fieldQ op = 0 then .ldPairImm (r16 (fieldP op)) nn else .addHl (r16 (fieldP op))
  | 2 => if fieldQ op = 0 then .ldPtrA (ptrOf (fieldP op)) else .ldAPtr (ptrOf (fieldP op))
  | 3 => if fieldQ op = 0 then .incPair (r16 (fieldP op)) else .decPair (r16 (fieldP op))
  | 4 =>
    match r8 (fieldY op) with
    | some r => .incReg r
    | none => .incMem
  | 5 =>
    match r8 (fieldY op) with
    | some r => .decReg r
    | none => .decMem
  | 6 =>
    match r8 (fieldY op) with
    | some r => .ldRegImm r n
    | none => .ldMemImm n
  | _ =>
    match fieldY op with
    | 0 => .accRot .rlca
    | 1 => .accRot .rrca
    | 2 => .accRot .rla
    | 3 => .accRot .rra
    | 4 => .daa
    | 5 => .cpl
    | 6 => .scf
    | _ => .ccf

/-- Quadrant 1 of the primary table (30_encoding.md R90). -/
def decodeX1 (op : Byte) : Form :=
  match r8 (fieldY op), r8 (fieldZ op) with
  | some dst, some src => .ldRegReg dst src
  | some dst, none => .ldRegMem dst
  | none, some src => .ldMemReg src
  | none, none => .halt

/-- Quadrant 2 of the primary table (30_encoding.md R90). -/
def decodeX2 (op : Byte) : Form :=
  match r8 (fieldZ op) with
  | some r => .aluReg (aluOf (fieldY op)) r
  | none => .aluMem (aluOf (fieldY op))

/-- Quadrant 3 of the primary table (30_encoding.md R90, R93). -/
def decodeX3 (op n : Byte) (nn : Word) : Form :=
  match fieldZ op with
  | 0 =>
    match fieldY op with
    | 4 => .ldPortA n
    | 5 => .addSpE n
    | 6 => .ldAPort n
    | 7 => .ldHlSpE n
    | _ => .retCc (condOf (fieldY op))
  | 1 =>
    if fieldQ op = 0 then .pop (r16stk (fieldP op))
    else
      match fieldP op with
      | 0 => .ret
      | 1 => .reti
      | 2 => .jpHl
      | _ => .ldSpHl
  | 2 =>
    match fieldY op with
    | 4 => .ldPortCA
    | 5 => .ldAbsA nn
    | 6 => .ldAPortC
    | 7 => .ldAAbs nn
    | _ => .jpCc (condOf (fieldY op)) nn
  | 3 =>
    match fieldY op with
    | 0 => .jp nn
    | 1 => .prefixCb
    | 2 => .undefined .uD3
    | 3 => .undefined .uDB
    | 4 => .undefined .uE3
    | 5 => .undefined .uEB
    | 6 => .di
    | _ => .ei
  | 4 =>
    match fieldY op with
    | 4 => .undefined .uE4
    | 5 => .undefined .uEC
    | 6 => .undefined .uF4
    | 7 => .undefined .uFC
    | _ => .callCc (condOf (fieldY op)) nn
  | 5 =>
    if fieldQ op = 0 then .push (r16stk (fieldP op))
    else
      match fieldP op with
      | 0 => .call nn
      | 1 => .undefined .uDD
      | 2 => .undefined .uED
      | _ => .undefined .uFD
  | 6 => .aluImm (aluOf (fieldY op)) n
  | _ => .rst (ix8 (fieldY op))

/-- The primary table entry of an opcode byte (30_encoding.md R90). -/
def primaryForm (op n : Byte) (nn : Word) : Form :=
  match fieldX op with
  | 0 => decodeX0 op n nn
  | 1 => decodeX1 op
  | 2 => decodeX2 op
  | _ => decodeX3 op n nn

/-- The secondary table entry of the byte after 0xCB (30_encoding.md R91): all 256 values are defined. -/
def secondaryForm (op2 : Byte) : Form :=
  match fieldX op2, r8 (fieldZ op2) with
  | 0, some r => .rotReg (rotOf (fieldY op2)) r
  | 0, none => .rotMem (rotOf (fieldY op2))
  | 1, some r => .bitReg (ix8 (fieldY op2)) r
  | 1, none => .bitMem (ix8 (fieldY op2))
  | 2, some r => .resReg (ix8 (fieldY op2)) r
  | 2, none => .resMem (ix8 (fieldY op2))
  | _, some r => .setReg (ix8 (fieldY op2)) r
  | _, none => .setMem (ix8 (fieldY op2))

/-! ## The decoder -/

/-- Why a byte string holds no whole instruction. Decoding rejects only strings that end too early: every opcode value
names a row of the table, the undefined ones included (30_encoding.md R93). -/
inductive DecodeReject where
  /-- There is no opcode byte. -/
  | noOpcode
  /-- The byte after the prefix 0xCB is missing (30_encoding.md R92). -/
  | noSecondByte
  /-- An immediate byte is missing (30_encoding.md R81). -/
  | noImmediate
  deriving DecidableEq, Repr

/-- The instruction at the head of a byte string and the bytes after it (30_encoding.md R80 to R83, R95). -/
def decode (bytes : List Byte) : Except DecodeReject (Instr × List Byte) :=
  match bytes with
  | [] => .error .noOpcode
  | op :: rest =>
    match formatOf op with
    | .bare => .ok ((primaryForm op 0 0).instr, rest)
    | .stop => .ok ((primaryForm op 0 0).instr, rest.drop (lengthOf op rest - 1))
    | .secondByte =>
      match rest with
      | [] => .error .noSecondByte
      | op2 :: rest2 => .ok ((secondaryForm op2).instr, rest2)
    | .imm8 =>
      match rest with
      | [] => .error .noImmediate
      | n :: rest2 => .ok ((primaryForm op n 0).instr, rest2)
    | .imm16 =>
      match rest with
      | lo :: hi :: rest2 => .ok ((primaryForm op 0 (joinBytes hi lo)).instr, rest2)
      | [_] => .error .noImmediate
      | [] => .error .noImmediate

/-! ## The encoder -/

/-- The bytes of an instruction, byte 0 first, as spec/opcode_table.json writes each row (30_encoding.md R81, R98): the
opcode byte, or 0xCB and the second byte, then the immediate, a 16-bit one low byte first (R83). `STOP`
is written in the form that halts, 0x10 and the zero byte that belongs to it (R81; log 13). -/
def encode (i : Instr) : List Byte :=
  match i with
  | .nop => [0x00]
  | .ld_BC_nn nn => [0x01, loByte nn, hiByte nn]
  | .ld_at_BC_A => [0x02]
  | .inc_BC => [0x03]
  | .inc_B => [0x04]
  | .dec_B => [0x05]
  | .ld_B_n n => [0x06, n]
  | .rlca => [0x07]
  | .ld_at_nn_SP nn => [0x08, loByte nn, hiByte nn]
  | .add_HL_BC => [0x09]
  | .ld_A_at_BC => [0x0A]
  | .dec_BC => [0x0B]
  | .inc_C => [0x0C]
  | .dec_C => [0x0D]
  | .ld_C_n n => [0x0E, n]
  | .rrca => [0x0F]
  | .stop => [0x10, 0x00]
  | .ld_DE_nn nn => [0x11, loByte nn, hiByte nn]
  | .ld_at_DE_A => [0x12]
  | .inc_DE => [0x13]
  | .inc_D => [0x14]
  | .dec_D => [0x15]
  | .ld_D_n n => [0x16, n]
  | .rla => [0x17]
  | .jr_e e => [0x18, e]
  | .add_HL_DE => [0x19]
  | .ld_A_at_DE => [0x1A]
  | .dec_DE => [0x1B]
  | .inc_E => [0x1C]
  | .dec_E => [0x1D]
  | .ld_E_n n => [0x1E, n]
  | .rra => [0x1F]
  | .jr_NZ_e e => [0x20, e]
  | .ld_HL_nn nn => [0x21, loByte nn, hiByte nn]
  | .ld_at_HLplus_A => [0x22]
  | .inc_HL => [0x23]
  | .inc_H => [0x24]
  | .dec_H => [0x25]
  | .ld_H_n n => [0x26, n]
  | .daa => [0x27]
  | .jr_Z_e e => [0x28, e]
  | .add_HL_HL => [0x29]
  | .ld_A_at_HLplus => [0x2A]
  | .dec_HL => [0x2B]
  | .inc_L => [0x2C]
  | .dec_L => [0x2D]
  | .ld_L_n n => [0x2E, n]
  | .cpl => [0x2F]
  | .jr_NC_e e => [0x30, e]
  | .ld_SP_nn nn => [0x31, loByte nn, hiByte nn]
  | .ld_at_HLminus_A => [0x32]
  | .inc_SP => [0x33]
  | .inc_at_HL => [0x34]
  | .dec_at_HL => [0x35]
  | .ld_at_HL_n n => [0x36, n]
  | .scf => [0x37]
  | .jr_C_e e => [0x38, e]
  | .add_HL_SP => [0x39]
  | .ld_A_at_HLminus => [0x3A]
  | .dec_SP => [0x3B]
  | .inc_A => [0x3C]
  | .dec_A => [0x3D]
  | .ld_A_n n => [0x3E, n]
  | .ccf => [0x3F]
  | .ld_B_B => [0x40]
  | .ld_B_C => [0x41]
  | .ld_B_D => [0x42]
  | .ld_B_E => [0x43]
  | .ld_B_H => [0x44]
  | .ld_B_L => [0x45]
  | .ld_B_at_HL => [0x46]
  | .ld_B_A => [0x47]
  | .ld_C_B => [0x48]
  | .ld_C_C => [0x49]
  | .ld_C_D => [0x4A]
  | .ld_C_E => [0x4B]
  | .ld_C_H => [0x4C]
  | .ld_C_L => [0x4D]
  | .ld_C_at_HL => [0x4E]
  | .ld_C_A => [0x4F]
  | .ld_D_B => [0x50]
  | .ld_D_C => [0x51]
  | .ld_D_D => [0x52]
  | .ld_D_E => [0x53]
  | .ld_D_H => [0x54]
  | .ld_D_L => [0x55]
  | .ld_D_at_HL => [0x56]
  | .ld_D_A => [0x57]
  | .ld_E_B => [0x58]
  | .ld_E_C => [0x59]
  | .ld_E_D => [0x5A]
  | .ld_E_E => [0x5B]
  | .ld_E_H => [0x5C]
  | .ld_E_L => [0x5D]
  | .ld_E_at_HL => [0x5E]
  | .ld_E_A => [0x5F]
  | .ld_H_B => [0x60]
  | .ld_H_C => [0x61]
  | .ld_H_D => [0x62]
  | .ld_H_E => [0x63]
  | .ld_H_H => [0x64]
  | .ld_H_L => [0x65]
  | .ld_H_at_HL => [0x66]
  | .ld_H_A => [0x67]
  | .ld_L_B => [0x68]
  | .ld_L_C => [0x69]
  | .ld_L_D => [0x6A]
  | .ld_L_E => [0x6B]
  | .ld_L_H => [0x6C]
  | .ld_L_L => [0x6D]
  | .ld_L_at_HL => [0x6E]
  | .ld_L_A => [0x6F]
  | .ld_at_HL_B => [0x70]
  | .ld_at_HL_C => [0x71]
  | .ld_at_HL_D => [0x72]
  | .ld_at_HL_E => [0x73]
  | .ld_at_HL_H => [0x74]
  | .ld_at_HL_L => [0x75]
  | .halt => [0x76]
  | .ld_at_HL_A => [0x77]
  | .ld_A_B => [0x78]
  | .ld_A_C => [0x79]
  | .ld_A_D => [0x7A]
  | .ld_A_E => [0x7B]
  | .ld_A_H => [0x7C]
  | .ld_A_L => [0x7D]
  | .ld_A_at_HL => [0x7E]
  | .ld_A_A => [0x7F]
  | .add_A_B => [0x80]
  | .add_A_C => [0x81]
  | .add_A_D => [0x82]
  | .add_A_E => [0x83]
  | .add_A_H => [0x84]
  | .add_A_L => [0x85]
  | .add_A_at_HL => [0x86]
  | .add_A_A => [0x87]
  | .adc_A_B => [0x88]
  | .adc_A_C => [0x89]
  | .adc_A_D => [0x8A]
  | .adc_A_E => [0x8B]
  | .adc_A_H => [0x8C]
  | .adc_A_L => [0x8D]
  | .adc_A_at_HL => [0x8E]
  | .adc_A_A => [0x8F]
  | .sub_B => [0x90]
  | .sub_C => [0x91]
  | .sub_D => [0x92]
  | .sub_E => [0x93]
  | .sub_H => [0x94]
  | .sub_L => [0x95]
  | .sub_at_HL => [0x96]
  | .sub_A => [0x97]
  | .sbc_A_B => [0x98]
  | .sbc_A_C => [0x99]
  | .sbc_A_D => [0x9A]
  | .sbc_A_E => [0x9B]
  | .sbc_A_H => [0x9C]
  | .sbc_A_L => [0x9D]
  | .sbc_A_at_HL => [0x9E]
  | .sbc_A_A => [0x9F]
  | .and_B => [0xA0]
  | .and_C => [0xA1]
  | .and_D => [0xA2]
  | .and_E => [0xA3]
  | .and_H => [0xA4]
  | .and_L => [0xA5]
  | .and_at_HL => [0xA6]
  | .and_A => [0xA7]
  | .xor_B => [0xA8]
  | .xor_C => [0xA9]
  | .xor_D => [0xAA]
  | .xor_E => [0xAB]
  | .xor_H => [0xAC]
  | .xor_L => [0xAD]
  | .xor_at_HL => [0xAE]
  | .xor_A => [0xAF]
  | .or_B => [0xB0]
  | .or_C => [0xB1]
  | .or_D => [0xB2]
  | .or_E => [0xB3]
  | .or_H => [0xB4]
  | .or_L => [0xB5]
  | .or_at_HL => [0xB6]
  | .or_A => [0xB7]
  | .cp_B => [0xB8]
  | .cp_C => [0xB9]
  | .cp_D => [0xBA]
  | .cp_E => [0xBB]
  | .cp_H => [0xBC]
  | .cp_L => [0xBD]
  | .cp_at_HL => [0xBE]
  | .cp_A => [0xBF]
  | .ret_NZ => [0xC0]
  | .pop_BC => [0xC1]
  | .jp_NZ_nn nn => [0xC2, loByte nn, hiByte nn]
  | .jp_nn nn => [0xC3, loByte nn, hiByte nn]
  | .call_NZ_nn nn => [0xC4, loByte nn, hiByte nn]
  | .push_BC => [0xC5]
  | .add_A_n n => [0xC6, n]
  | .rst_00 => [0xC7]
  | .ret_Z => [0xC8]
  | .ret => [0xC9]
  | .jp_Z_nn nn => [0xCA, loByte nn, hiByte nn]
  | .prefix_CB => [0xCB]
  | .call_Z_nn nn => [0xCC, loByte nn, hiByte nn]
  | .call_nn nn => [0xCD, loByte nn, hiByte nn]
  | .adc_A_n n => [0xCE, n]
  | .rst_08 => [0xCF]
  | .ret_NC => [0xD0]
  | .pop_DE => [0xD1]
  | .jp_NC_nn nn => [0xD2, loByte nn, hiByte nn]
  | .undefined_D3 => [0xD3]
  | .call_NC_nn nn => [0xD4, loByte nn, hiByte nn]
  | .push_DE => [0xD5]
  | .sub_n n => [0xD6, n]
  | .rst_10 => [0xD7]
  | .ret_C => [0xD8]
  | .reti => [0xD9]
  | .jp_C_nn nn => [0xDA, loByte nn, hiByte nn]
  | .undefined_DB => [0xDB]
  | .call_C_nn nn => [0xDC, loByte nn, hiByte nn]
  | .undefined_DD => [0xDD]
  | .sbc_A_n n => [0xDE, n]
  | .rst_18 => [0xDF]
  | .ldh_at_n_A n => [0xE0, n]
  | .pop_HL => [0xE1]
  | .ld_at_C_A => [0xE2]
  | .undefined_E3 => [0xE3]
  | .undefined_E4 => [0xE4]
  | .push_HL => [0xE5]
  | .and_n n => [0xE6, n]
  | .rst_20 => [0xE7]
  | .add_SP_e e => [0xE8, e]
  | .jp_HL => [0xE9]
  | .ld_at_nn_A nn => [0xEA, loByte nn, hiByte nn]
  | .undefined_EB => [0xEB]
  | .undefined_EC => [0xEC]
  | .undefined_ED => [0xED]
  | .xor_n n => [0xEE, n]
  | .rst_28 => [0xEF]
  | .ldh_A_at_n n => [0xF0, n]
  | .pop_AF => [0xF1]
  | .ld_A_at_C => [0xF2]
  | .di => [0xF3]
  | .undefined_F4 => [0xF4]
  | .push_AF => [0xF5]
  | .or_n n => [0xF6, n]
  | .rst_30 => [0xF7]
  | .ld_HL_SPpluse e => [0xF8, e]
  | .ld_SP_HL => [0xF9]
  | .ld_A_at_nn nn => [0xFA, loByte nn, hiByte nn]
  | .ei => [0xFB]
  | .undefined_FC => [0xFC]
  | .undefined_FD => [0xFD]
  | .cp_n n => [0xFE, n]
  | .rst_38 => [0xFF]
  | .rlc_B => [0xCB, 0x00]
  | .rlc_C => [0xCB, 0x01]
  | .rlc_D => [0xCB, 0x02]
  | .rlc_E => [0xCB, 0x03]
  | .rlc_H => [0xCB, 0x04]
  | .rlc_L => [0xCB, 0x05]
  | .rlc_at_HL => [0xCB, 0x06]
  | .rlc_A => [0xCB, 0x07]
  | .rrc_B => [0xCB, 0x08]
  | .rrc_C => [0xCB, 0x09]
  | .rrc_D => [0xCB, 0x0A]
  | .rrc_E => [0xCB, 0x0B]
  | .rrc_H => [0xCB, 0x0C]
  | .rrc_L => [0xCB, 0x0D]
  | .rrc_at_HL => [0xCB, 0x0E]
  | .rrc_A => [0xCB, 0x0F]
  | .rl_B => [0xCB, 0x10]
  | .rl_C => [0xCB, 0x11]
  | .rl_D => [0xCB, 0x12]
  | .rl_E => [0xCB, 0x13]
  | .rl_H => [0xCB, 0x14]
  | .rl_L => [0xCB, 0x15]
  | .rl_at_HL => [0xCB, 0x16]
  | .rl_A => [0xCB, 0x17]
  | .rr_B => [0xCB, 0x18]
  | .rr_C => [0xCB, 0x19]
  | .rr_D => [0xCB, 0x1A]
  | .rr_E => [0xCB, 0x1B]
  | .rr_H => [0xCB, 0x1C]
  | .rr_L => [0xCB, 0x1D]
  | .rr_at_HL => [0xCB, 0x1E]
  | .rr_A => [0xCB, 0x1F]
  | .sla_B => [0xCB, 0x20]
  | .sla_C => [0xCB, 0x21]
  | .sla_D => [0xCB, 0x22]
  | .sla_E => [0xCB, 0x23]
  | .sla_H => [0xCB, 0x24]
  | .sla_L => [0xCB, 0x25]
  | .sla_at_HL => [0xCB, 0x26]
  | .sla_A => [0xCB, 0x27]
  | .sra_B => [0xCB, 0x28]
  | .sra_C => [0xCB, 0x29]
  | .sra_D => [0xCB, 0x2A]
  | .sra_E => [0xCB, 0x2B]
  | .sra_H => [0xCB, 0x2C]
  | .sra_L => [0xCB, 0x2D]
  | .sra_at_HL => [0xCB, 0x2E]
  | .sra_A => [0xCB, 0x2F]
  | .swap_B => [0xCB, 0x30]
  | .swap_C => [0xCB, 0x31]
  | .swap_D => [0xCB, 0x32]
  | .swap_E => [0xCB, 0x33]
  | .swap_H => [0xCB, 0x34]
  | .swap_L => [0xCB, 0x35]
  | .swap_at_HL => [0xCB, 0x36]
  | .swap_A => [0xCB, 0x37]
  | .srl_B => [0xCB, 0x38]
  | .srl_C => [0xCB, 0x39]
  | .srl_D => [0xCB, 0x3A]
  | .srl_E => [0xCB, 0x3B]
  | .srl_H => [0xCB, 0x3C]
  | .srl_L => [0xCB, 0x3D]
  | .srl_at_HL => [0xCB, 0x3E]
  | .srl_A => [0xCB, 0x3F]
  | .bit_0_B => [0xCB, 0x40]
  | .bit_0_C => [0xCB, 0x41]
  | .bit_0_D => [0xCB, 0x42]
  | .bit_0_E => [0xCB, 0x43]
  | .bit_0_H => [0xCB, 0x44]
  | .bit_0_L => [0xCB, 0x45]
  | .bit_0_at_HL => [0xCB, 0x46]
  | .bit_0_A => [0xCB, 0x47]
  | .bit_1_B => [0xCB, 0x48]
  | .bit_1_C => [0xCB, 0x49]
  | .bit_1_D => [0xCB, 0x4A]
  | .bit_1_E => [0xCB, 0x4B]
  | .bit_1_H => [0xCB, 0x4C]
  | .bit_1_L => [0xCB, 0x4D]
  | .bit_1_at_HL => [0xCB, 0x4E]
  | .bit_1_A => [0xCB, 0x4F]
  | .bit_2_B => [0xCB, 0x50]
  | .bit_2_C => [0xCB, 0x51]
  | .bit_2_D => [0xCB, 0x52]
  | .bit_2_E => [0xCB, 0x53]
  | .bit_2_H => [0xCB, 0x54]
  | .bit_2_L => [0xCB, 0x55]
  | .bit_2_at_HL => [0xCB, 0x56]
  | .bit_2_A => [0xCB, 0x57]
  | .bit_3_B => [0xCB, 0x58]
  | .bit_3_C => [0xCB, 0x59]
  | .bit_3_D => [0xCB, 0x5A]
  | .bit_3_E => [0xCB, 0x5B]
  | .bit_3_H => [0xCB, 0x5C]
  | .bit_3_L => [0xCB, 0x5D]
  | .bit_3_at_HL => [0xCB, 0x5E]
  | .bit_3_A => [0xCB, 0x5F]
  | .bit_4_B => [0xCB, 0x60]
  | .bit_4_C => [0xCB, 0x61]
  | .bit_4_D => [0xCB, 0x62]
  | .bit_4_E => [0xCB, 0x63]
  | .bit_4_H => [0xCB, 0x64]
  | .bit_4_L => [0xCB, 0x65]
  | .bit_4_at_HL => [0xCB, 0x66]
  | .bit_4_A => [0xCB, 0x67]
  | .bit_5_B => [0xCB, 0x68]
  | .bit_5_C => [0xCB, 0x69]
  | .bit_5_D => [0xCB, 0x6A]
  | .bit_5_E => [0xCB, 0x6B]
  | .bit_5_H => [0xCB, 0x6C]
  | .bit_5_L => [0xCB, 0x6D]
  | .bit_5_at_HL => [0xCB, 0x6E]
  | .bit_5_A => [0xCB, 0x6F]
  | .bit_6_B => [0xCB, 0x70]
  | .bit_6_C => [0xCB, 0x71]
  | .bit_6_D => [0xCB, 0x72]
  | .bit_6_E => [0xCB, 0x73]
  | .bit_6_H => [0xCB, 0x74]
  | .bit_6_L => [0xCB, 0x75]
  | .bit_6_at_HL => [0xCB, 0x76]
  | .bit_6_A => [0xCB, 0x77]
  | .bit_7_B => [0xCB, 0x78]
  | .bit_7_C => [0xCB, 0x79]
  | .bit_7_D => [0xCB, 0x7A]
  | .bit_7_E => [0xCB, 0x7B]
  | .bit_7_H => [0xCB, 0x7C]
  | .bit_7_L => [0xCB, 0x7D]
  | .bit_7_at_HL => [0xCB, 0x7E]
  | .bit_7_A => [0xCB, 0x7F]
  | .res_0_B => [0xCB, 0x80]
  | .res_0_C => [0xCB, 0x81]
  | .res_0_D => [0xCB, 0x82]
  | .res_0_E => [0xCB, 0x83]
  | .res_0_H => [0xCB, 0x84]
  | .res_0_L => [0xCB, 0x85]
  | .res_0_at_HL => [0xCB, 0x86]
  | .res_0_A => [0xCB, 0x87]
  | .res_1_B => [0xCB, 0x88]
  | .res_1_C => [0xCB, 0x89]
  | .res_1_D => [0xCB, 0x8A]
  | .res_1_E => [0xCB, 0x8B]
  | .res_1_H => [0xCB, 0x8C]
  | .res_1_L => [0xCB, 0x8D]
  | .res_1_at_HL => [0xCB, 0x8E]
  | .res_1_A => [0xCB, 0x8F]
  | .res_2_B => [0xCB, 0x90]
  | .res_2_C => [0xCB, 0x91]
  | .res_2_D => [0xCB, 0x92]
  | .res_2_E => [0xCB, 0x93]
  | .res_2_H => [0xCB, 0x94]
  | .res_2_L => [0xCB, 0x95]
  | .res_2_at_HL => [0xCB, 0x96]
  | .res_2_A => [0xCB, 0x97]
  | .res_3_B => [0xCB, 0x98]
  | .res_3_C => [0xCB, 0x99]
  | .res_3_D => [0xCB, 0x9A]
  | .res_3_E => [0xCB, 0x9B]
  | .res_3_H => [0xCB, 0x9C]
  | .res_3_L => [0xCB, 0x9D]
  | .res_3_at_HL => [0xCB, 0x9E]
  | .res_3_A => [0xCB, 0x9F]
  | .res_4_B => [0xCB, 0xA0]
  | .res_4_C => [0xCB, 0xA1]
  | .res_4_D => [0xCB, 0xA2]
  | .res_4_E => [0xCB, 0xA3]
  | .res_4_H => [0xCB, 0xA4]
  | .res_4_L => [0xCB, 0xA5]
  | .res_4_at_HL => [0xCB, 0xA6]
  | .res_4_A => [0xCB, 0xA7]
  | .res_5_B => [0xCB, 0xA8]
  | .res_5_C => [0xCB, 0xA9]
  | .res_5_D => [0xCB, 0xAA]
  | .res_5_E => [0xCB, 0xAB]
  | .res_5_H => [0xCB, 0xAC]
  | .res_5_L => [0xCB, 0xAD]
  | .res_5_at_HL => [0xCB, 0xAE]
  | .res_5_A => [0xCB, 0xAF]
  | .res_6_B => [0xCB, 0xB0]
  | .res_6_C => [0xCB, 0xB1]
  | .res_6_D => [0xCB, 0xB2]
  | .res_6_E => [0xCB, 0xB3]
  | .res_6_H => [0xCB, 0xB4]
  | .res_6_L => [0xCB, 0xB5]
  | .res_6_at_HL => [0xCB, 0xB6]
  | .res_6_A => [0xCB, 0xB7]
  | .res_7_B => [0xCB, 0xB8]
  | .res_7_C => [0xCB, 0xB9]
  | .res_7_D => [0xCB, 0xBA]
  | .res_7_E => [0xCB, 0xBB]
  | .res_7_H => [0xCB, 0xBC]
  | .res_7_L => [0xCB, 0xBD]
  | .res_7_at_HL => [0xCB, 0xBE]
  | .res_7_A => [0xCB, 0xBF]
  | .set_0_B => [0xCB, 0xC0]
  | .set_0_C => [0xCB, 0xC1]
  | .set_0_D => [0xCB, 0xC2]
  | .set_0_E => [0xCB, 0xC3]
  | .set_0_H => [0xCB, 0xC4]
  | .set_0_L => [0xCB, 0xC5]
  | .set_0_at_HL => [0xCB, 0xC6]
  | .set_0_A => [0xCB, 0xC7]
  | .set_1_B => [0xCB, 0xC8]
  | .set_1_C => [0xCB, 0xC9]
  | .set_1_D => [0xCB, 0xCA]
  | .set_1_E => [0xCB, 0xCB]
  | .set_1_H => [0xCB, 0xCC]
  | .set_1_L => [0xCB, 0xCD]
  | .set_1_at_HL => [0xCB, 0xCE]
  | .set_1_A => [0xCB, 0xCF]
  | .set_2_B => [0xCB, 0xD0]
  | .set_2_C => [0xCB, 0xD1]
  | .set_2_D => [0xCB, 0xD2]
  | .set_2_E => [0xCB, 0xD3]
  | .set_2_H => [0xCB, 0xD4]
  | .set_2_L => [0xCB, 0xD5]
  | .set_2_at_HL => [0xCB, 0xD6]
  | .set_2_A => [0xCB, 0xD7]
  | .set_3_B => [0xCB, 0xD8]
  | .set_3_C => [0xCB, 0xD9]
  | .set_3_D => [0xCB, 0xDA]
  | .set_3_E => [0xCB, 0xDB]
  | .set_3_H => [0xCB, 0xDC]
  | .set_3_L => [0xCB, 0xDD]
  | .set_3_at_HL => [0xCB, 0xDE]
  | .set_3_A => [0xCB, 0xDF]
  | .set_4_B => [0xCB, 0xE0]
  | .set_4_C => [0xCB, 0xE1]
  | .set_4_D => [0xCB, 0xE2]
  | .set_4_E => [0xCB, 0xE3]
  | .set_4_H => [0xCB, 0xE4]
  | .set_4_L => [0xCB, 0xE5]
  | .set_4_at_HL => [0xCB, 0xE6]
  | .set_4_A => [0xCB, 0xE7]
  | .set_5_B => [0xCB, 0xE8]
  | .set_5_C => [0xCB, 0xE9]
  | .set_5_D => [0xCB, 0xEA]
  | .set_5_E => [0xCB, 0xEB]
  | .set_5_H => [0xCB, 0xEC]
  | .set_5_L => [0xCB, 0xED]
  | .set_5_at_HL => [0xCB, 0xEE]
  | .set_5_A => [0xCB, 0xEF]
  | .set_6_B => [0xCB, 0xF0]
  | .set_6_C => [0xCB, 0xF1]
  | .set_6_D => [0xCB, 0xF2]
  | .set_6_E => [0xCB, 0xF3]
  | .set_6_H => [0xCB, 0xF4]
  | .set_6_L => [0xCB, 0xF5]
  | .set_6_at_HL => [0xCB, 0xF6]
  | .set_6_A => [0xCB, 0xF7]
  | .set_7_B => [0xCB, 0xF8]
  | .set_7_C => [0xCB, 0xF9]
  | .set_7_D => [0xCB, 0xFA]
  | .set_7_E => [0xCB, 0xFB]
  | .set_7_H => [0xCB, 0xFC]
  | .set_7_L => [0xCB, 0xFD]
  | .set_7_at_HL => [0xCB, 0xFE]
  | .set_7_A => [0xCB, 0xFF]

/-! ## The host's numbering of an instruction's bits -/

/-- The three bytes, first byte first, of an instruction whose bits are `w` (bit 0 the least significant bit of the
first byte) and zero above bit `nbits`. -/
def tableBytes (nbits w : Nat) : List Byte :=
  let v := w % 2 ^ nbits
  [BitVec.ofNat 8 v, BitVec.ofNat 8 (v / 2 ^ 8), BitVec.ofNat 8 (v / 2 ^ 16)]

/-- The instruction the decoder reads from those bytes. -/
def decodeTableWord (nbits w : Nat) : Option Instr :=
  match decode (tableBytes nbits w) with
  | .ok p => some p.1
  | .error _ => none

end Sys2Proof
end

