-- ==== Sys2Proof/Config.lean ====
section
/-! DEFINITION. What an implementation fixes (00_scope.md R5, 10_state.md R28) and the one free value. -/

namespace Sys2Proof.Config

/-- Reset value of `PC` (10_state.md R28). -/
def resetPc : Word := 0x0100

/-- Reset value of `SP` (10_state.md R28). -/
def resetSp : Word := 0xFFFE

/-- The value `DI` and `EI` arm their timer with (10_state.md R22, decision D4). -/
def timerArm : Byte := 2

/-- The size of the ROM window, and the least image length for which every ROM address has a meaning
(00_scope.md R5, 20_memory.md R43). -/
def romWindow : Nat := 0x8000

/-- Length of the cartridge image of `State.reset`. DESIGN CHOICE, unsafe: the image is a model argument
(00_scope.md R5); log 3. -/
def resetRomLength : Nat := 0x8000

/-- What an address reads as that memory does not list. DESIGN CHOICE, unsafe: the spec leaves the initial contents to
`INIT_MEM` and the cartridge image (20_memory.md R42, decision D12); log 1. -/
def unlistedByte : Byte := 0

/-- Reset value of the interrupt-flag register. DESIGN CHOICE, unsafe: unspecified at construction (10_state.md R28);
log 2. -/
def resetIoIf : Byte := 0

/-- FREE VALUE: the byte that the n-th read of a stubbed timer port returns ("returns an unspecified byte (any value,
may differ between reads)", 20_memory.md R49). It has no body, so nothing can be proved of it. Safe; log 5. -/
opaque timerPortByte : Nat → Byte

end Sys2Proof.Config
end

