-- ==== Sys2Proof/Machine/State.lean ====
section
/-! DEFINITION. Everything the spec gives the machine, as plain data (10_state.md), the four faults (60_exceptions.md
R301) and the model's refusals. -/

namespace Sys2Proof.Machine

/-- The direction of a memory access; an instruction fetch is a read (60_exceptions.md R302). -/
inductive Access where
  | read
  | write
  deriving DecidableEq, Repr

/-- The four fatal faults with the record of 60_exceptions.md R302. Each ends the session (R300): the outcome carries no
state, which is safe (decision D14, log 6). -/
inductive Fault where
  /-- An undefined primary opcode: its byte and the address it was fetched from (R286). Raised by the meanings of the
  eleven `undefined_xx` rows. Safe. -/
  | unknownOpcode (op : Byte) (addr : Word)
  /-- A secondary-table miss (R285): its byte and the address it was fetched from. Raised by nothing: the secondary
  table is full (R301, decision D31). Safe. -/
  | unknownExtendedOpcode (op2 : Byte) (addr : Word)
  /-- An access to 0xFE00 to 0xFEFF or to an unhandled I/O port (20_memory.md R47 to R49). Raised by `memRead` and
  `memWrite`. Safe. -/
  | unimplementedRegion (addr : Word) (dir : Access)
  /-- An access to 0xA000 to 0xBFFF (20_memory.md R46). Raised by `memRead` and `memWrite`. Safe. -/
  | unallocatedExternalRam (addr : Word) (dir : Access)
  deriving DecidableEq, Repr

/-- What lies outside the spec: the model stops without a fault. -/
inductive Refusal where
  /-- An instruction without a meaning. Raised by `exec`'s refused arms only (there is none). Safe. -/
  | notModelled (mnemonic : String)
  /-- An access to a ROM address at or beyond the end of a short cartridge image (20_memory.md R43, U9, decision D11).
  Raised by `memRead` and `memWrite`. Safe. -/
  | beyondRomImage (addr : Word) (dir : Access)
  /-- A step or a reset of a session that has faulted (60_exceptions.md R303, U11). Raised by `runStep` and `hostReset`.
  Safe. -/
  | faultedSession
  /-- The fetched bytes are no whole instruction. Raised by `fetchInstr`, which never does it: it fetches as many bytes
  as the length rule says. Safe. -/
  | undecodable
  deriving DecidableEq, Repr

/-- The eight bytes of the register file (10_state.md R10, R11). -/
structure RegFile where
  a : Byte
  b : Byte
  c : Byte
  d : Byte
  e : Byte
  h : Byte
  l : Byte
  /-- The flag register: Z bit 7, N bit 6, H bit 5, C bit 4, the low nibble zero (R11, R14). -/
  f : Byte
  deriving DecidableEq, Repr

/-- The bytes of `rom` (below 0x8000), `vram`, `wram` and `hram` (10_state.md R25) by the address that owns them, in
canonical form (`Memory.wf`). The echo range owns no byte (20_memory.md R45). -/
abbrev Memory := List Host.Cell

/-- The state of the block (10_state.md R10 to R28). -/
structure State where
  regs : RegFile
  /-- R17. -/
  pc : Word
  /-- R19. -/
  sp : Word
  /-- Running (false) or Halted (true) (R20). -/
  halted : Bool
  /-- The master interrupt-enable, GBS's `interrupts` (R21). -/
  ime : Bool
  /-- The disable timer (R22). -/
  diPending : Byte
  /-- The enable timer (R22). -/
  eiPending : Byte
  /-- The terminal condition of the session (R23). -/
  fault : Option Fault
  /-- The cost of the last executed instruction, in machine cycles (R24). -/
  cycles : Byte
  /-- `rom`, `vram`, `wram`, `hram` (R25). -/
  mem : Memory
  /-- `io_if`, the interrupt-flag register at 0xFF0F (R25, 60_exceptions.md R305). -/
  ioIf : Byte
  /-- The length of the cartridge image (R25). -/
  romLength : Nat
  /-- The image's bytes at offset 0x8000 and above, which no address reaches (20_memory.md R43). -/
  romTail : List Byte
  /-- The model's own: how many free bytes the timer ports have returned (log 5). -/
  portReads : Nat
  deriving DecidableEq, Repr

/-- The machine right after reset (10_state.md R28, 70_reset_and_hazards.md R330). DESIGN CHOICE for what the spec leaves
to the cartridge port and `INIT_MEM`: `mem`, `romLength`, `romTail` (log 1, 3), `ioIf` (log 2); `portReads` is the
model's own (log 5). -/
def State.reset : State where
  regs := { a := 0, b := 0, c := 0, d := 0, e := 0, h := 0, l := 0, f := 0 }
  pc := Config.resetPc
  sp := Config.resetSp
  halted := false
  ime := true
  diPending := 0
  eiPending := 0
  fault := none
  cycles := 0
  mem := []
  ioIf := Config.resetIoIf
  romLength := Config.resetRomLength
  romTail := []
  portReads := 0

end Sys2Proof.Machine
end

