-- ==== Sys2Proof/Machine/Operands.lean ====
section
/-! DEFINITION. Every operand form: registers, pair views, conditions (10_state.md R10 to R14, 30_encoding.md R84 to R87). -/

namespace Sys2Proof.Machine

/-- Read a general register (10_state.md R10). -/
def State.reg (s : State) (r : Reg8) : Byte :=
  match r with
  | .b => s.regs.b
  | .c => s.regs.c
  | .d => s.regs.d
  | .e => s.regs.e
  | .h => s.regs.h
  | .l => s.regs.l
  | .a => s.regs.a

/-- Write a general register (10_state.md R10). -/
def State.setReg (s : State) (r : Reg8) (v : Byte) : State :=
  match r with
  | .b => { s with regs := { s.regs with b := v } }
  | .c => { s with regs := { s.regs with c := v } }
  | .d => { s with regs := { s.regs with d := v } }
  | .e => { s with regs := { s.regs with e := v } }
  | .h => { s with regs := { s.regs with h := v } }
  | .l => { s with regs := { s.regs with l := v } }
  | .a => { s with regs := { s.regs with a := v } }

/-- Write `F`: every write stores `v & 0xF0` (10_state.md R11). -/
def State.setF (s : State) (v : Byte) : State :=
  { s with regs := { s.regs with f := v &&& 0xF0 } }

/-- Read a pair operand (10_state.md R12, 30_encoding.md R85). -/
def State.pair (s : State) (rr : Reg16) : Word :=
  match rr with
  | .bc => joinBytes s.regs.b s.regs.c
  | .de => joinBytes s.regs.d s.regs.e
  | .hl => joinBytes s.regs.h s.regs.l
  | .sp => s.sp

/-- Write a pair operand: the high byte to the first-named register (10_state.md R12, 30_encoding.md R85). -/
def State.setPair (s : State) (rr : Reg16) (v : Word) : State :=
  match rr with
  | .bc => { s with regs := { s.regs with b := hiByte v, c := loByte v } }
  | .de => { s with regs := { s.regs with d := hiByte v, e := loByte v } }
  | .hl => { s with regs := { s.regs with h := hiByte v, l := loByte v } }
  | .sp => { s with sp := v }

/-- Read a pair operand of `PUSH` and `POP` (10_state.md R12, 30_encoding.md R86). -/
def State.stkPair (s : State) (q : RegStk) : Word :=
  match q with
  | .bc => s.pair .bc
  | .de => s.pair .de
  | .hl => s.pair .hl
  | .af => joinBytes s.regs.a s.regs.f

/-- Write a pair operand of `PUSH` and `POP`: the `AF` view masks the flag byte (10_state.md R12, 30_encoding.md R86). -/
def State.setStkPair (s : State) (q : RegStk) (v : Word) : State :=
  match q with
  | .bc => s.setPair .bc v
  | .de => s.setPair .de v
  | .hl => s.setPair .hl v
  | .af => (s.setReg .a (hiByte v)).setF (loByte v)

/-- `F.Z` (10_state.md R14). -/
def State.flagZ (s : State) : Bool := s.regs.f.getLsbD 7

/-- `F.N` (10_state.md R14). -/
def State.flagN (s : State) : Bool := s.regs.f.getLsbD 6

/-- `F.H` (10_state.md R14). -/
def State.flagH (s : State) : Bool := s.regs.f.getLsbD 5

/-- `F.C` (10_state.md R14). -/
def State.flagC (s : State) : Bool := s.regs.f.getLsbD 4

/-- `cond[cc]` on the present flags (30_encoding.md R87). -/
def State.holds (s : State) (cc : Cond) : Bool :=
  match cc with
  | .nz => !s.flagZ
  | .z => s.flagZ
  | .nc => !s.flagC
  | .c => s.flagC

/-- The effective address of an accumulator load or store through a pair (43_load8.md R229). -/
def State.ptrAddr (s : State) (p : Ptr) : Word :=
  match p with
  | .bc => s.pair .bc
  | .de => s.pair .de
  | .hlInc => s.pair .hl
  | .hlDec => s.pair .hl

/-- The change of the base register after that access (43_load8.md R229). -/
def State.ptrAfter (s : State) (p : Ptr) : State :=
  match p with
  | .bc => s
  | .de => s
  | .hlInc => s.setPair .hl (s.pair .hl + 1)
  | .hlDec => s.setPair .hl (s.pair .hl - 1)

/-- The zero-page address `0xFF00 + n` (30_encoding.md R89). -/
def zeroPage (n : Byte) : Word := 0xFF00 + zext16 n

end Sys2Proof.Machine
end

