-- ==== Sys2Proof/Machine/Flags.lean ====
section
/-! DEFINITION. Every result and flag computation (40_alu8.md R110 to R112, R140 to R147; 41_alu16.md R160;
42_rotate_shift_bit.md R174, R191 to R196). -/

namespace Sys2Proof.Machine

/-- `flags(z, n, h, c)`: the whole flag register (00_scope.md R6, 10_state.md R14). -/
def flags (z n h c : Bool) : Byte :=
  BitVec.ofNat 8 (z.toNat * 0x80 + n.toNat * 0x40 + h.toNat * 0x20 + c.toNat * 0x10)

/-- `F <- flags(z, n, h, c)` (00_scope.md R6). -/
def State.setFlags (s : State) (z n h c : Bool) : State := s.setF (flags z n h c)

/-- A result of the 8-bit adder with its four flags. -/
structure Sum8 where
  res : Byte
  z : Bool
  n : Bool
  h : Bool
  c : Bool
  deriving DecidableEq, Repr

/-- A result of the 16-bit adder with its four flags. -/
structure Sum16 where
  res : Word
  z : Bool
  n : Bool
  h : Bool
  c : Bool
  deriving DecidableEq, Repr

/-- `Add8(x, y, cin)` (40_alu8.md R110). -/
def add8 (x y : Byte) (cin : Bool) : Sum8 :=
  let sum := x.toNat + y.toNat + cin.toNat
  { res := BitVec.ofNat 8 sum
    z := decide (BitVec.ofNat 8 sum = 0#8)
    n := false
    h := decide (0x0F < x.toNat % 16 + y.toNat % 16 + cin.toNat)
    c := decide (0xFF < sum) }

/-- `Sub8(x, y, cin)` (40_alu8.md R111). -/
def sub8 (x y : Byte) (cin : Bool) : Sum8 :=
  let res := x - y - BitVec.ofNat 8 cin.toNat
  { res := res
    z := decide (res = 0#8)
    n := true
    h := decide (x.toNat % 16 < y.toNat % 16 + cin.toNat)
    c := decide (x.toNat < y.toNat + cin.toNat) }

/-- `Add16(x, y)` (41_alu16.md R160, decision D1). -/
def add16 (x y : Word) : Sum16 :=
  let sum := x.toNat + y.toNat
  { res := BitVec.ofNat 16 sum
    z := decide (BitVec.ofNat 16 sum = 0#16)
    n := false
    h := decide (0x0FFF < x.toNat % 0x1000 + y.toNat % 0x1000)
    c := decide (0xFFFF < sum) }

/-- `A <- res; F <- flags(z, n, h, c)`. -/
def State.setSum (s : State) (r : Sum8) : State := (s.setReg .a r.res).setFlags r.z r.n r.h r.c

/-- `A <- res; F <- flags(res = 0, false, false, false)` (40_alu8.md R112). -/
def State.setLogic (s : State) (res : Byte) : State :=
  (s.setReg .a res).setFlags (decide (res = 0#8)) false false false

/-- An ALU operation of 40_alu8.md sections 2 to 7 on `A` and an operand byte: `A` and `F` after it. -/
def State.alu (s : State) (op : AluOp) (v : Byte) : State :=
  match op with
  | .add => s.setSum (add8 s.regs.a v false)
  | .adc => s.setSum (add8 s.regs.a v s.flagC)
  | .sub => s.setSum (sub8 s.regs.a v false)
  | .sbc => s.setSum (sub8 s.regs.a v s.flagC)
  | .and => s.setLogic (s.regs.a &&& v)
  | .xor => s.setLogic (s.regs.a ^^^ v)
  | .or => s.setLogic (s.regs.a ||| v)
  | .cp =>
    let r := sub8 s.regs.a v false
    s.setFlags r.z r.n r.h r.c

/-- The flags of `INC` of a byte `x`: Carry kept (40_alu8.md R140, R141, decision D7). -/
def State.setIncFlags (s : State) (x : Byte) : State :=
  s.setFlags (decide (x + 1 = 0#8)) false (decide (x.toNat % 16 = 0x0F)) s.flagC

/-- The flags of `DEC` of a byte `x`: Carry kept (40_alu8.md R142, R143, decision D7). -/
def State.setDecFlags (s : State) (x : Byte) : State :=
  s.setFlags (decide (x - 1 = 0#8)) true (decide (x.toNat % 16 = 0)) s.flagC

/-- A result of a one-byte transform and its carry-out. -/
structure Shifted where
  res : Byte
  c : Bool
  deriving DecidableEq, Repr

/-- A bit as the byte `b << i`. -/
def bitAt (i : Nat) (b : Bool) : Byte := BitVec.ofNat 8 (b.toNat * 2 ^ i)

/-- The eight one-byte transforms (42_rotate_shift_bit.md R174); `cin` is used by `Rl` and `Rr` alone. -/
def rotate (op : RotOp) (x : Byte) (cin : Bool) : Shifted :=
  match op with
  | .rlc => { res := (x <<< 1) ||| bitAt 0 (x.getLsbD 7), c := x.getLsbD 7 }
  | .rrc => { res := (x >>> 1) ||| bitAt 7 (x.getLsbD 0), c := x.getLsbD 0 }
  | .rl => { res := (x <<< 1) ||| bitAt 0 cin, c := x.getLsbD 7 }
  | .rr => { res := (x >>> 1) ||| bitAt 7 cin, c := x.getLsbD 0 }
  | .sla => { res := x <<< 1, c := x.getLsbD 7 }
  | .sra => { res := (x >>> 1) ||| (x &&& 0x80), c := x.getLsbD 0 }
  | .swap => { res := ((x <<< 4) &&& 0xF0) ||| (x >>> 4), c := false }
  | .srl => { res := x >>> 1, c := x.getLsbD 0 }

/-- The transform behind an accumulator rotate (42_rotate_shift_bit.md R170 to R173). -/
def accRotOp (r : AccRot) : RotOp :=
  match r with
  | .rlca => .rlc
  | .rrca => .rrc
  | .rla => .rl
  | .rra => .rr

/-- The flags of a secondary-table transform: Zero by the result (42_rotate_shift_bit.md section 3, decision D7). -/
def State.setRotFlags (s : State) (r : Shifted) : State :=
  s.setFlags (decide (r.res = 0#8)) false false r.c

/-- The flags of `BIT b` of a byte `x` (42_rotate_shift_bit.md R191, R192). -/
def State.setBitFlags (s : State) (b : Ix8) (x : Byte) : State :=
  s.setFlags (!x.getLsbD b.toNat) false false false

/-- `x & ~(1 << b)` (42_rotate_shift_bit.md R193, R194). -/
def clearBit (b : Ix8) (x : Byte) : Byte := x &&& ~~~(bitMask b.toNat)

/-- `x | (1 << b)` (42_rotate_shift_bit.md R195, R196). -/
def raiseBit (b : Ix8) (x : Byte) : Byte := x ||| bitMask b.toNat

/-- The adjustment `adj` of `DAA` (40_alu8.md R144). -/
def daaAdjust (a : Byte) (n h c : Bool) : Byte :=
  let low : Bool := if n then h else h || decide (0x09 < a.toNat % 16)
  let high : Bool := if n then c else c || decide (0x99 < a.toNat)
  (if low then 0x06#8 else 0#8) ||| (if high then 0x60#8 else 0#8)

/-- The carry `c` that `DAA` leaves (40_alu8.md R144). -/
def daaCarry (a : Byte) (n c : Bool) : Bool :=
  if n then c else c || decide (0x99 < a.toNat)

/-- The value that `DAA` leaves in `A` (40_alu8.md R144). -/
def daaResult (a : Byte) (n h c : Bool) : Byte :=
  if n then a - daaAdjust a n h c else a + daaAdjust a n h c

end Sys2Proof.Machine
end

