-- ==== Sys2Proof/Machine/Memory.lean ====
section
/-! DEFINITION. The storage of bytes: a list of cells in one canonical form (addresses strictly rising, no cell holding
what an unlisted address reads as, every address one that owns a byte). -/

namespace Sys2Proof.Machine

/-- The addresses that own a byte of `rom`, `vram`, `wram` or `hram` (10_state.md R25). -/
def ownsByte (k : Nat) : Bool :=
  decide (k < 0xA000) || (decide (0xC000 ≤ k) && decide (k < 0xE000)) || (decide (0xFF80 ≤ k) && decide (k < 0x10000))

/-- The byte stored at an address. -/
def Memory.get (m : Memory) (k : Nat) : Byte :=
  match m with
  | [] => Config.unlistedByte
  | c :: rest => if c.1 = k then c.2 else Memory.get rest k

/-- Store a byte, keeping the canonical form. -/
def Memory.set (m : Memory) (k : Nat) (v : Byte) : Memory :=
  match m with
  | [] => if v = Config.unlistedByte then [] else [(k, v)]
  | c :: rest =>
    if k < c.1 then (if v = Config.unlistedByte then c :: rest else (k, v) :: c :: rest)
    else if k = c.1 then (if v = Config.unlistedByte then rest else (k, v) :: rest)
    else c :: Memory.set rest k v

/-- The canonical form. -/
def Memory.wf (m : Memory) : Bool :=
  match m with
  | [] => true
  | c :: rest =>
    decide (c.2 ≠ Config.unlistedByte) && ownsByte c.1 && rest.all (fun x => decide (c.1 < x.1)) && Memory.wf rest

/-- Store bytes at rising addresses. -/
def Memory.load (m : Memory) (base : Nat) (bytes : List Byte) : Memory :=
  match bytes with
  | [] => m
  | v :: rest => Memory.load (Memory.set m base v) (base + 1) rest

end Sys2Proof.Machine
end

