-- ==== Sys2Proof/Machine/Ops.lean ====
section
/-! DEFINITION. The shared operations: the memory port (20_memory.md), the stack (44_load16_stack.md), the fatal fault
(60_exceptions.md R300), the return from an interrupt (45_control.md R274) and the interrupt timers (R308). -/

namespace Sys2Proof.Machine

/-- What an operation of a step gives: a value, a fault or a refusal. -/
abbrev Result (α : Type) := Host.Outcome α Fault Refusal

/-- Go on with the value; stop where the first operation stops. -/
def andThen {α β : Type} (r : Result α) (k : α → Result β) : Result β :=
  match r with
  | .next a => k a
  | .fault f => .fault f
  | .refused x => .refused x

/-- `raise K(info)`: the step and the session end here, with no state (60_exceptions.md R300). It is this machine's only
exception entry: nothing is saved and no handler runs (R309). -/
def raise {α : Type} (f : Fault) : Result α := .fault f

/-- The end of every instruction: `cycles <- n` (10_state.md R24). -/
def finish (n : Byte) (s : State) : Result State := .next { s with cycles := n }

/-! ## Address decode -/

/-- What an address reaches (20_memory.md R41). -/
inductive Place where
  /-- A byte of `rom`, `vram`, `wram` or `hram`, by the address that owns it. -/
  | cell (k : Nat)
  /-- `io_if` at 0xFF0F. -/
  | interruptFlag
  /-- A stubbed timer port, 0xFF05 to 0xFF07. -/
  | timerPort
  /-- OAM, 0xFEA0 to 0xFEFF, and the unhandled I/O ports. -/
  | unimplemented
  /-- External RAM. -/
  | unallocated
  /-- A ROM address at or beyond the end of the cartridge image. -/
  | beyondImage
  deriving DecidableEq, Repr

/-- The address decode of 20_memory.md R41, R43 to R49, R54, for a cartridge image of a given length. -/
def placeOf (romLength : Nat) (addr : Word) : Place :=
  let n := addr.toNat
  if n < 0x8000 then (if n < romLength then .cell n else .beyondImage)
  else if n < 0xA000 then .cell n
  else if n < 0xC000 then .unallocated
  else if n < 0xE000 then .cell n
  else if n < 0xFE00 then .cell (n - 0x2000)
  else if n < 0xFF00 then .unimplemented
  else if n < 0xFF80 then
    (if 0xFF05 ≤ n ∧ n ≤ 0xFF07 then .timerPort else if n = 0xFF0F then .interruptFlag else .unimplemented)
  else .cell n

/-- The stored byte an address reads as, for an address that stores one: the model's plain read of one byte. -/
def storedByte (addr : Word) (s : State) : Option Byte :=
  match placeOf s.romLength addr with
  | .cell k => some (s.mem.get k)
  | .interruptFlag => some s.ioIf
  | .timerPort => none
  | .unimplemented => none
  | .unallocated => none
  | .beyondImage => none

/-- `MemRead(addr, 1)` (20_memory.md R50). The state changes only in the model's own count of free bytes, at a timer port
(R49, log 5). -/
def memRead (addr : Word) (s : State) : Result (Byte × State) :=
  match placeOf s.romLength addr with
  | .cell k => .next (s.mem.get k, s)
  | .interruptFlag => .next (s.ioIf, s)
  | .timerPort => .next (Config.timerPortByte s.portReads, { s with portReads := s.portReads + 1 })
  | .unimplemented => raise (.unimplementedRegion addr .read)
  | .unallocated => raise (.unallocatedExternalRam addr .read)
  | .beyondImage => .refused (.beyondRomImage addr .read)

/-- `MemWrite(addr, 1, v)` (20_memory.md R51). -/
def memWrite (addr : Word) (v : Byte) (s : State) : Result State :=
  match placeOf s.romLength addr with
  | .cell k => .next { s with mem := s.mem.set k v }
  | .interruptFlag => .next { s with ioIf := v }
  | .timerPort => .next s
  | .unimplemented => raise (.unimplementedRegion addr .write)
  | .unallocated => raise (.unallocatedExternalRam addr .write)
  | .beyondImage => .refused (.beyondRomImage addr .write)

/-- `MemRead(addr, 2)`: the high byte first (20_memory.md R52). -/
def memRead2 (addr : Word) (s : State) : Result (Word × State) :=
  andThen (memRead addr s) fun hi =>
    andThen (memRead (addr + 1) hi.2) fun lo => .next (joinBytes hi.1 lo.1, lo.2)

/-- `MemWrite(addr, 2, v)`: the high byte first (20_memory.md R53). -/
def memWrite2 (addr : Word) (v : Word) (s : State) : Result State :=
  andThen (memWrite addr (hiByte v) s) fun t => memWrite (addr + 1) (loByte v) t

/-! ## The stack -/

/-- `Push16(v)` (44_load16_stack.md R246, decision D3). -/
def push16 (v : Word) (s : State) : Result State :=
  memWrite2 (s.sp - 2) v { s with sp := s.sp - 2 }

/-- `Pop16()` (44_load16_stack.md R247, decision D3). -/
def pop16 (s : State) : Result (Word × State) :=
  andThen (memRead2 s.sp s) fun p => .next (p.1, { p.2 with sp := p.2.sp + 2 })

/-- The return of `RETI`: the popped address goes to `PC` and `IME` is set at once (45_control.md R274, decision D18). -/
def returnFromInterrupt (s : State) : Result State :=
  andThen (pop16 s) fun p => .next { p.2 with pc := p.1, ime := true }

/-! ## The interrupt timers -/

/-- The disable half of `TickInterruptTimers()` (60_exceptions.md R308). -/
def tickDisable (s : State) : State :=
  if s.diPending = 0 then s
  else { s with diPending := s.diPending - 1, ime := if s.diPending - 1 = 0 then false else s.ime }

/-- The enable half of `TickInterruptTimers()` (60_exceptions.md R308). -/
def tickEnable (s : State) : State :=
  if s.eiPending = 0 then s
  else { s with eiPending := s.eiPending - 1, ime := if s.eiPending - 1 = 0 then true else s.ime }

/-- `TickInterruptTimers()`: the disable timer is examined first (60_exceptions.md R308, decisions D4, D19). -/
def tickTimers (s : State) : State := tickEnable (tickDisable s)

/-! ## Fetch -/

/-- `Fetch8()` (30_encoding.md R82): if the read faults, `PC` is not advanced. -/
def fetch8 (s : State) : Result (Byte × State) :=
  andThen (memRead s.pc s) fun p => .next (p.1, { p.2 with pc := p.2.pc + 1 })

/-- `n` times `Fetch8()`, in the order of the addresses (30_encoding.md R82). -/
def fetchBytes (n : Nat) (s : State) : Result (List Byte × State) :=
  match n with
  | 0 => .next ([], s)
  | k + 1 =>
    andThen (fetch8 s) fun p =>
      andThen (fetchBytes k p.2) fun q => .next (p.1 :: q.1, q.2)

/-- Fetch the opcode byte, then the bytes its format asks for, and decode them (30_encoding.md R80, R81, R92). The byte
after `STOP` is left to its operation, as 46_system.md R282 writes it. -/
def fetchInstr (s : State) : Result (Instr × State) :=
  andThen (fetch8 s) fun p =>
    andThen (fetchBytes (fetchLength p.1 - 1) p.2) fun q =>
      match decode (p.1 :: q.1) with
      | .ok d => .next (d.1, q.2)
      | .error _ => .refused .undecodable

/-- `Step()` for a given meaning of instructions (30_encoding.md R80): a faulted session takes no step (60_exceptions.md
R303), a Halted step changes nothing (decision D16), and the timers tick after every executed instruction. -/
def runStep (execute : Instr → State → Result State) (s : State) : Result State :=
  match s.fault with
  | some _ => .refused .faultedSession
  | none =>
    if s.halted then .next s
    else andThen (fetchInstr s) fun p => andThen (execute p.1 p.2) fun t => .next (tickTimers t)

/-- Put a byte where an address stores it; nothing happens at an address that stores none. -/
def pokeByte (addr : Word) (v : Byte) (s : State) : State :=
  match memWrite addr v s with
  | .next t => t
  | .fault _ => s
  | .refused _ => s

/-- Put bytes at rising addresses. -/
def pokeBytes (addr : Word) (bytes : List Byte) (s : State) : State :=
  match bytes with
  | [] => s
  | v :: rest => pokeBytes (addr + 1) rest (pokeByte addr v s)

/-- The state whose next step runs the instruction of a table word: its bytes at `PC`, the core Running and not faulted
(log 4). -/
def placeWord (nbits w : Nat) (s : State) : State :=
  pokeBytes s.pc (tableBytes nbits w) { s with halted := false, fault := none }

end Sys2Proof.Machine
end

