-- ==== Sys2Proof/Machine/Alu16.lean ====
section
/-! DEFINITION. 16-bit arithmetic (41_alu16.md). -/

namespace Sys2Proof.Machine

/-! ## Shared operations, one for each rule's shape -/

/-- `ADD HL,rr` (R161). -/
def doAddHl (rr : Reg16) (s : State) : Result State :=
  let r := add16 (s.pair .hl) (s.pair rr)
  finish 2 ((s.setPair .hl r.res).setFlags r.z r.n r.h r.c)

/-- `ADD SP,e` (R162). -/
def doAddSpE (e : Byte) (s : State) : Result State :=
  let r := add16 s.sp (sext16 e)
  finish 4 (({ s with sp := r.res } : State).setFlags r.z r.n r.h r.c)

/-- `INC rr` (R163): no flag is written. -/
def doIncPair (rr : Reg16) (s : State) : Result State := finish 2 (s.setPair rr (s.pair rr + 1))

/-- `DEC rr` (R164): no flag is written. -/
def doDecPair (rr : Reg16) (s : State) : Result State := finish 2 (s.setPair rr (s.pair rr - 1))

/-! ## The meaning of each row of the opcode table -/

/-- `ADD HL,BC` (R161). -/
def exec_add_HL_BC (s : State) : Result State := doAddHl .bc s

/-- `ADD HL,DE` (R161). -/
def exec_add_HL_DE (s : State) : Result State := doAddHl .de s

/-- `ADD HL,HL` (R161). -/
def exec_add_HL_HL (s : State) : Result State := doAddHl .hl s

/-- `ADD HL,SP` (R161). -/
def exec_add_HL_SP (s : State) : Result State := doAddHl .sp s

/-- `ADD SP,e` (R162). -/
def exec_add_SP_e (e : Byte) (s : State) : Result State := doAddSpE e s

/-- `INC BC` (R163). -/
def exec_inc_BC (s : State) : Result State := doIncPair .bc s

/-- `INC DE` (R163). -/
def exec_inc_DE (s : State) : Result State := doIncPair .de s

/-- `INC HL` (R163). -/
def exec_inc_HL (s : State) : Result State := doIncPair .hl s

/-- `INC SP` (R163). -/
def exec_inc_SP (s : State) : Result State := doIncPair .sp s

/-- `DEC BC` (R164). -/
def exec_dec_BC (s : State) : Result State := doDecPair .bc s

/-- `DEC DE` (R164). -/
def exec_dec_DE (s : State) : Result State := doDecPair .de s

/-- `DEC HL` (R164). -/
def exec_dec_HL (s : State) : Result State := doDecPair .hl s

/-- `DEC SP` (R164). -/
def exec_dec_SP (s : State) : Result State := doDecPair .sp s

end Sys2Proof.Machine
end

