-- ==== Sys2Proof/Machine/Alu8.lean ====
section
/-! DEFINITION. 8-bit arithmetic and logic (40_alu8.md). -/

namespace Sys2Proof.Machine

/-! ## Shared operations, one for each rule's shape -/

/-- The ALU group on a register (R113, R116, R119, R122, R125, R128, R131, R134). -/
def doAluReg (op : AluOp) (r : Reg8) (s : State) : Result State := finish 1 (s.alu op (s.reg r))

/-- The ALU group on the byte at `HL` (R114, R117, R120, R123, R126, R129, R132, R135). -/
def doAluMem (op : AluOp) (s : State) : Result State :=
  andThen (memRead (s.pair .hl) s) fun p => finish 2 (p.2.alu op p.1)

/-- The ALU group on an immediate (R115, R118, R121, R124, R127, R130, R133, R136). -/
def doAluImm (op : AluOp) (n : Byte) (s : State) : Result State := finish 2 (s.alu op n)

/-- `INC r` (R140). -/
def doIncReg (r : Reg8) (s : State) : Result State :=
  finish 1 ((s.setReg r (s.reg r + 1)).setIncFlags (s.reg r))

/-- `INC (HL)` (R141). -/
def doIncMem (s : State) : Result State :=
  andThen (memRead (s.pair .hl) s) fun p =>
    andThen (memWrite (s.pair .hl) (p.1 + 1) p.2) fun t => finish 3 (t.setIncFlags p.1)

/-- `DEC r` (R142). -/
def doDecReg (r : Reg8) (s : State) : Result State :=
  finish 1 ((s.setReg r (s.reg r - 1)).setDecFlags (s.reg r))

/-- `DEC (HL)` (R143). -/
def doDecMem (s : State) : Result State :=
  andThen (memRead (s.pair .hl) s) fun p =>
    andThen (memWrite (s.pair .hl) (p.1 - 1) p.2) fun t => finish 3 (t.setDecFlags p.1)

/-- `DAA` (R144). -/
def doDaa (s : State) : Result State :=
  let a := daaResult s.regs.a s.flagN s.flagH s.flagC
  finish 1 ((s.setReg .a a).setFlags (decide (a = 0#8)) s.flagN false (daaCarry s.regs.a s.flagN s.flagC))

/-- `CPL` (R145). -/
def doCpl (s : State) : Result State :=
  finish 1 ((s.setReg .a (s.regs.a ^^^ 0xFF)).setFlags s.flagZ true true s.flagC)

/-- `SCF` (R146). -/
def doScf (s : State) : Result State := finish 1 (s.setFlags s.flagZ false false true)

/-- `CCF` (R147). -/
def doCcf (s : State) : Result State := finish 1 (s.setFlags s.flagZ false false (!s.flagC))

/-! ## The meaning of each row of the opcode table -/

/-- `ADD A,B` (R113). -/
def exec_add_A_B (s : State) : Result State := doAluReg .add .b s

/-- `ADD A,C` (R113). -/
def exec_add_A_C (s : State) : Result State := doAluReg .add .c s

/-- `ADD A,D` (R113). -/
def exec_add_A_D (s : State) : Result State := doAluReg .add .d s

/-- `ADD A,E` (R113). -/
def exec_add_A_E (s : State) : Result State := doAluReg .add .e s

/-- `ADD A,H` (R113). -/
def exec_add_A_H (s : State) : Result State := doAluReg .add .h s

/-- `ADD A,L` (R113). -/
def exec_add_A_L (s : State) : Result State := doAluReg .add .l s

/-- `ADD A,A` (R113). -/
def exec_add_A_A (s : State) : Result State := doAluReg .add .a s

/-- `ADC A,B` (R116). -/
def exec_adc_A_B (s : State) : Result State := doAluReg .adc .b s

/-- `ADC A,C` (R116). -/
def exec_adc_A_C (s : State) : Result State := doAluReg .adc .c s

/-- `ADC A,D` (R116). -/
def exec_adc_A_D (s : State) : Result State := doAluReg .adc .d s

/-- `ADC A,E` (R116). -/
def exec_adc_A_E (s : State) : Result State := doAluReg .adc .e s

/-- `ADC A,H` (R116). -/
def exec_adc_A_H (s : State) : Result State := doAluReg .adc .h s

/-- `ADC A,L` (R116). -/
def exec_adc_A_L (s : State) : Result State := doAluReg .adc .l s

/-- `ADC A,A` (R116). -/
def exec_adc_A_A (s : State) : Result State := doAluReg .adc .a s

/-- `SUB B` (R119). -/
def exec_sub_B (s : State) : Result State := doAluReg .sub .b s

/-- `SUB C` (R119). -/
def exec_sub_C (s : State) : Result State := doAluReg .sub .c s

/-- `SUB D` (R119). -/
def exec_sub_D (s : State) : Result State := doAluReg .sub .d s

/-- `SUB E` (R119). -/
def exec_sub_E (s : State) : Result State := doAluReg .sub .e s

/-- `SUB H` (R119). -/
def exec_sub_H (s : State) : Result State := doAluReg .sub .h s

/-- `SUB L` (R119). -/
def exec_sub_L (s : State) : Result State := doAluReg .sub .l s

/-- `SUB A` (R119). -/
def exec_sub_A (s : State) : Result State := doAluReg .sub .a s

/-- `SBC A,B` (R122). -/
def exec_sbc_A_B (s : State) : Result State := doAluReg .sbc .b s

/-- `SBC A,C` (R122). -/
def exec_sbc_A_C (s : State) : Result State := doAluReg .sbc .c s

/-- `SBC A,D` (R122). -/
def exec_sbc_A_D (s : State) : Result State := doAluReg .sbc .d s

/-- `SBC A,E` (R122). -/
def exec_sbc_A_E (s : State) : Result State := doAluReg .sbc .e s

/-- `SBC A,H` (R122). -/
def exec_sbc_A_H (s : State) : Result State := doAluReg .sbc .h s

/-- `SBC A,L` (R122). -/
def exec_sbc_A_L (s : State) : Result State := doAluReg .sbc .l s

/-- `SBC A,A` (R122). -/
def exec_sbc_A_A (s : State) : Result State := doAluReg .sbc .a s

/-- `AND B` (R125). -/
def exec_and_B (s : State) : Result State := doAluReg .and .b s

/-- `AND C` (R125). -/
def exec_and_C (s : State) : Result State := doAluReg .and .c s

/-- `AND D` (R125). -/
def exec_and_D (s : State) : Result State := doAluReg .and .d s

/-- `AND E` (R125). -/
def exec_and_E (s : State) : Result State := doAluReg .and .e s

/-- `AND H` (R125). -/
def exec_and_H (s : State) : Result State := doAluReg .and .h s

/-- `AND L` (R125). -/
def exec_and_L (s : State) : Result State := doAluReg .and .l s

/-- `AND A` (R125). -/
def exec_and_A (s : State) : Result State := doAluReg .and .a s

/-- `XOR B` (R128). -/
def exec_xor_B (s : State) : Result State := doAluReg .xor .b s

/-- `XOR C` (R128). -/
def exec_xor_C (s : State) : Result State := doAluReg .xor .c s

/-- `XOR D` (R128). -/
def exec_xor_D (s : State) : Result State := doAluReg .xor .d s

/-- `XOR E` (R128). -/
def exec_xor_E (s : State) : Result State := doAluReg .xor .e s

/-- `XOR H` (R128). -/
def exec_xor_H (s : State) : Result State := doAluReg .xor .h s

/-- `XOR L` (R128). -/
def exec_xor_L (s : State) : Result State := doAluReg .xor .l s

/-- `XOR A` (R128). -/
def exec_xor_A (s : State) : Result State := doAluReg .xor .a s

/-- `OR B` (R131). -/
def exec_or_B (s : State) : Result State := doAluReg .or .b s

/-- `OR C` (R131). -/
def exec_or_C (s : State) : Result State := doAluReg .or .c s

/-- `OR D` (R131). -/
def exec_or_D (s : State) : Result State := doAluReg .or .d s

/-- `OR E` (R131). -/
def exec_or_E (s : State) : Result State := doAluReg .or .e s

/-- `OR H` (R131). -/
def exec_or_H (s : State) : Result State := doAluReg .or .h s

/-- `OR L` (R131). -/
def exec_or_L (s : State) : Result State := doAluReg .or .l s

/-- `OR A` (R131). -/
def exec_or_A (s : State) : Result State := doAluReg .or .a s

/-- `CP B` (R134). -/
def exec_cp_B (s : State) : Result State := doAluReg .cp .b s

/-- `CP C` (R134). -/
def exec_cp_C (s : State) : Result State := doAluReg .cp .c s

/-- `CP D` (R134). -/
def exec_cp_D (s : State) : Result State := doAluReg .cp .d s

/-- `CP E` (R134). -/
def exec_cp_E (s : State) : Result State := doAluReg .cp .e s

/-- `CP H` (R134). -/
def exec_cp_H (s : State) : Result State := doAluReg .cp .h s

/-- `CP L` (R134). -/
def exec_cp_L (s : State) : Result State := doAluReg .cp .l s

/-- `CP A` (R134). -/
def exec_cp_A (s : State) : Result State := doAluReg .cp .a s

/-- `ADD A,(HL)` (R114). -/
def exec_add_A_at_HL (s : State) : Result State := doAluMem .add s

/-- `ADC A,(HL)` (R117). -/
def exec_adc_A_at_HL (s : State) : Result State := doAluMem .adc s

/-- `SUB (HL)` (R120). -/
def exec_sub_at_HL (s : State) : Result State := doAluMem .sub s

/-- `SBC A,(HL)` (R123). -/
def exec_sbc_A_at_HL (s : State) : Result State := doAluMem .sbc s

/-- `AND (HL)` (R126). -/
def exec_and_at_HL (s : State) : Result State := doAluMem .and s

/-- `XOR (HL)` (R129). -/
def exec_xor_at_HL (s : State) : Result State := doAluMem .xor s

/-- `OR (HL)` (R132). -/
def exec_or_at_HL (s : State) : Result State := doAluMem .or s

/-- `CP (HL)` (R135). -/
def exec_cp_at_HL (s : State) : Result State := doAluMem .cp s

/-- `ADD A,n` (R115). -/
def exec_add_A_n (n : Byte) (s : State) : Result State := doAluImm .add n s

/-- `ADC A,n` (R118). -/
def exec_adc_A_n (n : Byte) (s : State) : Result State := doAluImm .adc n s

/-- `SUB n` (R121). -/
def exec_sub_n (n : Byte) (s : State) : Result State := doAluImm .sub n s

/-- `SBC A,n` (R124). -/
def exec_sbc_A_n (n : Byte) (s : State) : Result State := doAluImm .sbc n s

/-- `AND n` (R127). -/
def exec_and_n (n : Byte) (s : State) : Result State := doAluImm .and n s

/-- `XOR n` (R130). -/
def exec_xor_n (n : Byte) (s : State) : Result State := doAluImm .xor n s

/-- `OR n` (R133). -/
def exec_or_n (n : Byte) (s : State) : Result State := doAluImm .or n s

/-- `CP n` (R136). -/
def exec_cp_n (n : Byte) (s : State) : Result State := doAluImm .cp n s

/-- `INC B` (R140). -/
def exec_inc_B (s : State) : Result State := doIncReg .b s

/-- `INC C` (R140). -/
def exec_inc_C (s : State) : Result State := doIncReg .c s

/-- `INC D` (R140). -/
def exec_inc_D (s : State) : Result State := doIncReg .d s

/-- `INC E` (R140). -/
def exec_inc_E (s : State) : Result State := doIncReg .e s

/-- `INC H` (R140). -/
def exec_inc_H (s : State) : Result State := doIncReg .h s

/-- `INC L` (R140). -/
def exec_inc_L (s : State) : Result State := doIncReg .l s

/-- `INC A` (R140). -/
def exec_inc_A (s : State) : Result State := doIncReg .a s

/-- `INC (HL)` (R141). -/
def exec_inc_at_HL (s : State) : Result State := doIncMem s

/-- `DEC B` (R142). -/
def exec_dec_B (s : State) : Result State := doDecReg .b s

/-- `DEC C` (R142). -/
def exec_dec_C (s : State) : Result State := doDecReg .c s

/-- `DEC D` (R142). -/
def exec_dec_D (s : State) : Result State := doDecReg .d s

/-- `DEC E` (R142). -/
def exec_dec_E (s : State) : Result State := doDecReg .e s

/-- `DEC H` (R142). -/
def exec_dec_H (s : State) : Result State := doDecReg .h s

/-- `DEC L` (R142). -/
def exec_dec_L (s : State) : Result State := doDecReg .l s

/-- `DEC A` (R142). -/
def exec_dec_A (s : State) : Result State := doDecReg .a s

/-- `DEC (HL)` (R143). -/
def exec_dec_at_HL (s : State) : Result State := doDecMem s

/-- `DAA` (R144). -/
def exec_daa (s : State) : Result State := doDaa s

/-- `CPL` (R145). -/
def exec_cpl (s : State) : Result State := doCpl s

/-- `SCF` (R146). -/
def exec_scf (s : State) : Result State := doScf s

/-- `CCF` (R147). -/
def exec_ccf (s : State) : Result State := doCcf s

end Sys2Proof.Machine
end

