-- ==== Sys2Proof/Machine/BitOps.lean ====
section
/-! DEFINITION. Bit test, reset and set (42_rotate_shift_bit.md section 4). -/

namespace Sys2Proof.Machine

/-! ## Shared operations, one for each rule's shape -/

/-- `BIT b,r` (R191): the register is not written. -/
def doBitReg (b : Ix8) (r : Reg8) (s : State) : Result State := finish 2 (s.setBitFlags b (s.reg r))

/-- `BIT b,(HL)` (R192): no write is made. -/
def doBitMem (b : Ix8) (s : State) : Result State :=
  andThen (memRead (s.pair .hl) s) fun p => finish 3 (p.2.setBitFlags b p.1)

/-- `RES b,r` (R193): no flag is written. -/
def doResReg (b : Ix8) (r : Reg8) (s : State) : Result State := finish 2 (s.setReg r (clearBit b (s.reg r)))

/-- `RES b,(HL)` (R194). -/
def doResMem (b : Ix8) (s : State) : Result State :=
  andThen (memRead (s.pair .hl) s) fun p =>
    andThen (memWrite (s.pair .hl) (clearBit b p.1) p.2) fun t => finish 4 t

/-- `SET b,r` (R195): no flag is written. -/
def doSetReg (b : Ix8) (r : Reg8) (s : State) : Result State := finish 2 (s.setReg r (raiseBit b (s.reg r)))

/-- `SET b,(HL)` (R196). -/
def doSetMem (b : Ix8) (s : State) : Result State :=
  andThen (memRead (s.pair .hl) s) fun p =>
    andThen (memWrite (s.pair .hl) (raiseBit b p.1) p.2) fun t => finish 4 t

/-! ## The meaning of each row of the opcode table -/

/-- `BIT 0,B` (R191). -/
def exec_bit_0_B (s : State) : Result State := doBitReg .i0 .b s

/-- `BIT 0,C` (R191). -/
def exec_bit_0_C (s : State) : Result State := doBitReg .i0 .c s

/-- `BIT 0,D` (R191). -/
def exec_bit_0_D (s : State) : Result State := doBitReg .i0 .d s

/-- `BIT 0,E` (R191). -/
def exec_bit_0_E (s : State) : Result State := doBitReg .i0 .e s

/-- `BIT 0,H` (R191). -/
def exec_bit_0_H (s : State) : Result State := doBitReg .i0 .h s

/-- `BIT 0,L` (R191). -/
def exec_bit_0_L (s : State) : Result State := doBitReg .i0 .l s

/-- `BIT 0,A` (R191). -/
def exec_bit_0_A (s : State) : Result State := doBitReg .i0 .a s

/-- `BIT 1,B` (R191). -/
def exec_bit_1_B (s : State) : Result State := doBitReg .i1 .b s

/-- `BIT 1,C` (R191). -/
def exec_bit_1_C (s : State) : Result State := doBitReg .i1 .c s

/-- `BIT 1,D` (R191). -/
def exec_bit_1_D (s : State) : Result State := doBitReg .i1 .d s

/-- `BIT 1,E` (R191). -/
def exec_bit_1_E (s : State) : Result State := doBitReg .i1 .e s

/-- `BIT 1,H` (R191). -/
def exec_bit_1_H (s : State) : Result State := doBitReg .i1 .h s

/-- `BIT 1,L` (R191). -/
def exec_bit_1_L (s : State) : Result State := doBitReg .i1 .l s

/-- `BIT 1,A` (R191). -/
def exec_bit_1_A (s : State) : Result State := doBitReg .i1 .a s

/-- `BIT 2,B` (R191). -/
def exec_bit_2_B (s : State) : Result State := doBitReg .i2 .b s

/-- `BIT 2,C` (R191). -/
def exec_bit_2_C (s : State) : Result State := doBitReg .i2 .c s

/-- `BIT 2,D` (R191). -/
def exec_bit_2_D (s : State) : Result State := doBitReg .i2 .d s

/-- `BIT 2,E` (R191). -/
def exec_bit_2_E (s : State) : Result State := doBitReg .i2 .e s

/-- `BIT 2,H` (R191). -/
def exec_bit_2_H (s : State) : Result State := doBitReg .i2 .h s

/-- `BIT 2,L` (R191). -/
def exec_bit_2_L (s : State) : Result State := doBitReg .i2 .l s

/-- `BIT 2,A` (R191). -/
def exec_bit_2_A (s : State) : Result State := doBitReg .i2 .a s

/-- `BIT 3,B` (R191). -/
def exec_bit_3_B (s : State) : Result State := doBitReg .i3 .b s

/-- `BIT 3,C` (R191). -/
def exec_bit_3_C (s : State) : Result State := doBitReg .i3 .c s

/-- `BIT 3,D` (R191). -/
def exec_bit_3_D (s : State) : Result State := doBitReg .i3 .d s

/-- `BIT 3,E` (R191). -/
def exec_bit_3_E (s : State) : Result State := doBitReg .i3 .e s

/-- `BIT 3,H` (R191). -/
def exec_bit_3_H (s : State) : Result State := doBitReg .i3 .h s

/-- `BIT 3,L` (R191). -/
def exec_bit_3_L (s : State) : Result State := doBitReg .i3 .l s

/-- `BIT 3,A` (R191). -/
def exec_bit_3_A (s : State) : Result State := doBitReg .i3 .a s

/-- `BIT 4,B` (R191). -/
def exec_bit_4_B (s : State) : Result State := doBitReg .i4 .b s

/-- `BIT 4,C` (R191). -/
def exec_bit_4_C (s : State) : Result State := doBitReg .i4 .c s

/-- `BIT 4,D` (R191). -/
def exec_bit_4_D (s : State) : Result State := doBitReg .i4 .d s

/-- `BIT 4,E` (R191). -/
def exec_bit_4_E (s : State) : Result State := doBitReg .i4 .e s

/-- `BIT 4,H` (R191). -/
def exec_bit_4_H (s : State) : Result State := doBitReg .i4 .h s

/-- `BIT 4,L` (R191). -/
def exec_bit_4_L (s : State) : Result State := doBitReg .i4 .l s

/-- `BIT 4,A` (R191). -/
def exec_bit_4_A (s : State) : Result State := doBitReg .i4 .a s

/-- `BIT 5,B` (R191). -/
def exec_bit_5_B (s : State) : Result State := doBitReg .i5 .b s

/-- `BIT 5,C` (R191). -/
def exec_bit_5_C (s : State) : Result State := doBitReg .i5 .c s

/-- `BIT 5,D` (R191). -/
def exec_bit_5_D (s : State) : Result State := doBitReg .i5 .d s

/-- `BIT 5,E` (R191). -/
def exec_bit_5_E (s : State) : Result State := doBitReg .i5 .e s

/-- `BIT 5,H` (R191). -/
def exec_bit_5_H (s : State) : Result State := doBitReg .i5 .h s

/-- `BIT 5,L` (R191). -/
def exec_bit_5_L (s : State) : Result State := doBitReg .i5 .l s

/-- `BIT 5,A` (R191). -/
def exec_bit_5_A (s : State) : Result State := doBitReg .i5 .a s

/-- `BIT 6,B` (R191). -/
def exec_bit_6_B (s : State) : Result State := doBitReg .i6 .b s

/-- `BIT 6,C` (R191). -/
def exec_bit_6_C (s : State) : Result State := doBitReg .i6 .c s

/-- `BIT 6,D` (R191). -/
def exec_bit_6_D (s : State) : Result State := doBitReg .i6 .d s

/-- `BIT 6,E` (R191). -/
def exec_bit_6_E (s : State) : Result State := doBitReg .i6 .e s

/-- `BIT 6,H` (R191). -/
def exec_bit_6_H (s : State) : Result State := doBitReg .i6 .h s

/-- `BIT 6,L` (R191). -/
def exec_bit_6_L (s : State) : Result State := doBitReg .i6 .l s

/-- `BIT 6,A` (R191). -/
def exec_bit_6_A (s : State) : Result State := doBitReg .i6 .a s

/-- `BIT 7,B` (R191). -/
def exec_bit_7_B (s : State) : Result State := doBitReg .i7 .b s

/-- `BIT 7,C` (R191). -/
def exec_bit_7_C (s : State) : Result State := doBitReg .i7 .c s

/-- `BIT 7,D` (R191). -/
def exec_bit_7_D (s : State) : Result State := doBitReg .i7 .d s

/-- `BIT 7,E` (R191). -/
def exec_bit_7_E (s : State) : Result State := doBitReg .i7 .e s

/-- `BIT 7,H` (R191). -/
def exec_bit_7_H (s : State) : Result State := doBitReg .i7 .h s

/-- `BIT 7,L` (R191). -/
def exec_bit_7_L (s : State) : Result State := doBitReg .i7 .l s

/-- `BIT 7,A` (R191). -/
def exec_bit_7_A (s : State) : Result State := doBitReg .i7 .a s

/-- `BIT 0,(HL)` (R192). -/
def exec_bit_0_at_HL (s : State) : Result State := doBitMem .i0 s

/-- `BIT 1,(HL)` (R192). -/
def exec_bit_1_at_HL (s : State) : Result State := doBitMem .i1 s

/-- `BIT 2,(HL)` (R192). -/
def exec_bit_2_at_HL (s : State) : Result State := doBitMem .i2 s

/-- `BIT 3,(HL)` (R192). -/
def exec_bit_3_at_HL (s : State) : Result State := doBitMem .i3 s

/-- `BIT 4,(HL)` (R192). -/
def exec_bit_4_at_HL (s : State) : Result State := doBitMem .i4 s

/-- `BIT 5,(HL)` (R192). -/
def exec_bit_5_at_HL (s : State) : Result State := doBitMem .i5 s

/-- `BIT 6,(HL)` (R192). -/
def exec_bit_6_at_HL (s : State) : Result State := doBitMem .i6 s

/-- `BIT 7,(HL)` (R192). -/
def exec_bit_7_at_HL (s : State) : Result State := doBitMem .i7 s

/-- `RES 0,B` (R193). -/
def exec_res_0_B (s : State) : Result State := doResReg .i0 .b s

/-- `RES 0,C` (R193). -/
def exec_res_0_C (s : State) : Result State := doResReg .i0 .c s

/-- `RES 0,D` (R193). -/
def exec_res_0_D (s : State) : Result State := doResReg .i0 .d s

/-- `RES 0,E` (R193). -/
def exec_res_0_E (s : State) : Result State := doResReg .i0 .e s

/-- `RES 0,H` (R193). -/
def exec_res_0_H (s : State) : Result State := doResReg .i0 .h s

/-- `RES 0,L` (R193). -/
def exec_res_0_L (s : State) : Result State := doResReg .i0 .l s

/-- `RES 0,A` (R193). -/
def exec_res_0_A (s : State) : Result State := doResReg .i0 .a s

/-- `RES 1,B` (R193). -/
def exec_res_1_B (s : State) : Result State := doResReg .i1 .b s

/-- `RES 1,C` (R193). -/
def exec_res_1_C (s : State) : Result State := doResReg .i1 .c s

/-- `RES 1,D` (R193). -/
def exec_res_1_D (s : State) : Result State := doResReg .i1 .d s

/-- `RES 1,E` (R193). -/
def exec_res_1_E (s : State) : Result State := doResReg .i1 .e s

/-- `RES 1,H` (R193). -/
def exec_res_1_H (s : State) : Result State := doResReg .i1 .h s

/-- `RES 1,L` (R193). -/
def exec_res_1_L (s : State) : Result State := doResReg .i1 .l s

/-- `RES 1,A` (R193). -/
def exec_res_1_A (s : State) : Result State := doResReg .i1 .a s

/-- `RES 2,B` (R193). -/
def exec_res_2_B (s : State) : Result State := doResReg .i2 .b s

/-- `RES 2,C` (R193). -/
def exec_res_2_C (s : State) : Result State := doResReg .i2 .c s

/-- `RES 2,D` (R193). -/
def exec_res_2_D (s : State) : Result State := doResReg .i2 .d s

/-- `RES 2,E` (R193). -/
def exec_res_2_E (s : State) : Result State := doResReg .i2 .e s

/-- `RES 2,H` (R193). -/
def exec_res_2_H (s : State) : Result State := doResReg .i2 .h s

/-- `RES 2,L` (R193). -/
def exec_res_2_L (s : State) : Result State := doResReg .i2 .l s

/-- `RES 2,A` (R193). -/
def exec_res_2_A (s : State) : Result State := doResReg .i2 .a s

/-- `RES 3,B` (R193). -/
def exec_res_3_B (s : State) : Result State := doResReg .i3 .b s

/-- `RES 3,C` (R193). -/
def exec_res_3_C (s : State) : Result State := doResReg .i3 .c s

/-- `RES 3,D` (R193). -/
def exec_res_3_D (s : State) : Result State := doResReg .i3 .d s

/-- `RES 3,E` (R193). -/
def exec_res_3_E (s : State) : Result State := doResReg .i3 .e s

/-- `RES 3,H` (R193). -/
def exec_res_3_H (s : State) : Result State := doResReg .i3 .h s

/-- `RES 3,L` (R193). -/
def exec_res_3_L (s : State) : Result State := doResReg .i3 .l s

/-- `RES 3,A` (R193). -/
def exec_res_3_A (s : State) : Result State := doResReg .i3 .a s

/-- `RES 4,B` (R193). -/
def exec_res_4_B (s : State) : Result State := doResReg .i4 .b s

/-- `RES 4,C` (R193). -/
def exec_res_4_C (s : State) : Result State := doResReg .i4 .c s

/-- `RES 4,D` (R193). -/
def exec_res_4_D (s : State) : Result State := doResReg .i4 .d s

/-- `RES 4,E` (R193). -/
def exec_res_4_E (s : State) : Result State := doResReg .i4 .e s

/-- `RES 4,H` (R193). -/
def exec_res_4_H (s : State) : Result State := doResReg .i4 .h s

/-- `RES 4,L` (R193). -/
def exec_res_4_L (s : State) : Result State := doResReg .i4 .l s

/-- `RES 4,A` (R193). -/
def exec_res_4_A (s : State) : Result State := doResReg .i4 .a s

/-- `RES 5,B` (R193). -/
def exec_res_5_B (s : State) : Result State := doResReg .i5 .b s

/-- `RES 5,C` (R193). -/
def exec_res_5_C (s : State) : Result State := doResReg .i5 .c s

/-- `RES 5,D` (R193). -/
def exec_res_5_D (s : State) : Result State := doResReg .i5 .d s

/-- `RES 5,E` (R193). -/
def exec_res_5_E (s : State) : Result State := doResReg .i5 .e s

/-- `RES 5,H` (R193). -/
def exec_res_5_H (s : State) : Result State := doResReg .i5 .h s

/-- `RES 5,L` (R193). -/
def exec_res_5_L (s : State) : Result State := doResReg .i5 .l s

/-- `RES 5,A` (R193). -/
def exec_res_5_A (s : State) : Result State := doResReg .i5 .a s

/-- `RES 6,B` (R193). -/
def exec_res_6_B (s : State) : Result State := doResReg .i6 .b s

/-- `RES 6,C` (R193). -/
def exec_res_6_C (s : State) : Result State := doResReg .i6 .c s

/-- `RES 6,D` (R193). -/
def exec_res_6_D (s : State) : Result State := doResReg .i6 .d s

/-- `RES 6,E` (R193). -/
def exec_res_6_E (s : State) : Result State := doResReg .i6 .e s

/-- `RES 6,H` (R193). -/
def exec_res_6_H (s : State) : Result State := doResReg .i6 .h s

/-- `RES 6,L` (R193). -/
def exec_res_6_L (s : State) : Result State := doResReg .i6 .l s

/-- `RES 6,A` (R193). -/
def exec_res_6_A (s : State) : Result State := doResReg .i6 .a s

/-- `RES 7,B` (R193). -/
def exec_res_7_B (s : State) : Result State := doResReg .i7 .b s

/-- `RES 7,C` (R193). -/
def exec_res_7_C (s : State) : Result State := doResReg .i7 .c s

/-- `RES 7,D` (R193). -/
def exec_res_7_D (s : State) : Result State := doResReg .i7 .d s

/-- `RES 7,E` (R193). -/
def exec_res_7_E (s : State) : Result State := doResReg .i7 .e s

/-- `RES 7,H` (R193). -/
def exec_res_7_H (s : State) : Result State := doResReg .i7 .h s

/-- `RES 7,L` (R193). -/
def exec_res_7_L (s : State) : Result State := doResReg .i7 .l s

/-- `RES 7,A` (R193). -/
def exec_res_7_A (s : State) : Result State := doResReg .i7 .a s

/-- `RES 0,(HL)` (R194). -/
def exec_res_0_at_HL (s : State) : Result State := doResMem .i0 s

/-- `RES 1,(HL)` (R194). -/
def exec_res_1_at_HL (s : State) : Result State := doResMem .i1 s

/-- `RES 2,(HL)` (R194). -/
def exec_res_2_at_HL (s : State) : Result State := doResMem .i2 s

/-- `RES 3,(HL)` (R194). -/
def exec_res_3_at_HL (s : State) : Result State := doResMem .i3 s

/-- `RES 4,(HL)` (R194). -/
def exec_res_4_at_HL (s : State) : Result State := doResMem .i4 s

/-- `RES 5,(HL)` (R194). -/
def exec_res_5_at_HL (s : State) : Result State := doResMem .i5 s

/-- `RES 6,(HL)` (R194). -/
def exec_res_6_at_HL (s : State) : Result State := doResMem .i6 s

/-- `RES 7,(HL)` (R194). -/
def exec_res_7_at_HL (s : State) : Result State := doResMem .i7 s

/-- `SET 0,B` (R195). -/
def exec_set_0_B (s : State) : Result State := doSetReg .i0 .b s

/-- `SET 0,C` (R195). -/
def exec_set_0_C (s : State) : Result State := doSetReg .i0 .c s

/-- `SET 0,D` (R195). -/
def exec_set_0_D (s : State) : Result State := doSetReg .i0 .d s

/-- `SET 0,E` (R195). -/
def exec_set_0_E (s : State) : Result State := doSetReg .i0 .e s

/-- `SET 0,H` (R195). -/
def exec_set_0_H (s : State) : Result State := doSetReg .i0 .h s

/-- `SET 0,L` (R195). -/
def exec_set_0_L (s : State) : Result State := doSetReg .i0 .l s

/-- `SET 0,A` (R195). -/
def exec_set_0_A (s : State) : Result State := doSetReg .i0 .a s

/-- `SET 1,B` (R195). -/
def exec_set_1_B (s : State) : Result State := doSetReg .i1 .b s

/-- `SET 1,C` (R195). -/
def exec_set_1_C (s : State) : Result State := doSetReg .i1 .c s

/-- `SET 1,D` (R195). -/
def exec_set_1_D (s : State) : Result State := doSetReg .i1 .d s

/-- `SET 1,E` (R195). -/
def exec_set_1_E (s : State) : Result State := doSetReg .i1 .e s

/-- `SET 1,H` (R195). -/
def exec_set_1_H (s : State) : Result State := doSetReg .i1 .h s

/-- `SET 1,L` (R195). -/
def exec_set_1_L (s : State) : Result State := doSetReg .i1 .l s

/-- `SET 1,A` (R195). -/
def exec_set_1_A (s : State) : Result State := doSetReg .i1 .a s

/-- `SET 2,B` (R195). -/
def exec_set_2_B (s : State) : Result State := doSetReg .i2 .b s

/-- `SET 2,C` (R195). -/
def exec_set_2_C (s : State) : Result State := doSetReg .i2 .c s

/-- `SET 2,D` (R195). -/
def exec_set_2_D (s : State) : Result State := doSetReg .i2 .d s

/-- `SET 2,E` (R195). -/
def exec_set_2_E (s : State) : Result State := doSetReg .i2 .e s

/-- `SET 2,H` (R195). -/
def exec_set_2_H (s : State) : Result State := doSetReg .i2 .h s

/-- `SET 2,L` (R195). -/
def exec_set_2_L (s : State) : Result State := doSetReg .i2 .l s

/-- `SET 2,A` (R195). -/
def exec_set_2_A (s : State) : Result State := doSetReg .i2 .a s

/-- `SET 3,B` (R195). -/
def exec_set_3_B (s : State) : Result State := doSetReg .i3 .b s

/-- `SET 3,C` (R195). -/
def exec_set_3_C (s : State) : Result State := doSetReg .i3 .c s

/-- `SET 3,D` (R195). -/
def exec_set_3_D (s : State) : Result State := doSetReg .i3 .d s

/-- `SET 3,E` (R195). -/
def exec_set_3_E (s : State) : Result State := doSetReg .i3 .e s

/-- `SET 3,H` (R195). -/
def exec_set_3_H (s : State) : Result State := doSetReg .i3 .h s

/-- `SET 3,L` (R195). -/
def exec_set_3_L (s : State) : Result State := doSetReg .i3 .l s

/-- `SET 3,A` (R195). -/
def exec_set_3_A (s : State) : Result State := doSetReg .i3 .a s

/-- `SET 4,B` (R195). -/
def exec_set_4_B (s : State) : Result State := doSetReg .i4 .b s

/-- `SET 4,C` (R195). -/
def exec_set_4_C (s : State) : Result State := doSetReg .i4 .c s

/-- `SET 4,D` (R195). -/
def exec_set_4_D (s : State) : Result State := doSetReg .i4 .d s

/-- `SET 4,E` (R195). -/
def exec_set_4_E (s : State) : Result State := doSetReg .i4 .e s

/-- `SET 4,H` (R195). -/
def exec_set_4_H (s : State) : Result State := doSetReg .i4 .h s

/-- `SET 4,L` (R195). -/
def exec_set_4_L (s : State) : Result State := doSetReg .i4 .l s

/-- `SET 4,A` (R195). -/
def exec_set_4_A (s : State) : Result State := doSetReg .i4 .a s

/-- `SET 5,B` (R195). -/
def exec_set_5_B (s : State) : Result State := doSetReg .i5 .b s

/-- `SET 5,C` (R195). -/
def exec_set_5_C (s : State) : Result State := doSetReg .i5 .c s

/-- `SET 5,D` (R195). -/
def exec_set_5_D (s : State) : Result State := doSetReg .i5 .d s

/-- `SET 5,E` (R195). -/
def exec_set_5_E (s : State) : Result State := doSetReg .i5 .e s

/-- `SET 5,H` (R195). -/
def exec_set_5_H (s : State) : Result State := doSetReg .i5 .h s

/-- `SET 5,L` (R195). -/
def exec_set_5_L (s : State) : Result State := doSetReg .i5 .l s

/-- `SET 5,A` (R195). -/
def exec_set_5_A (s : State) : Result State := doSetReg .i5 .a s

/-- `SET 6,B` (R195). -/
def exec_set_6_B (s : State) : Result State := doSetReg .i6 .b s

/-- `SET 6,C` (R195). -/
def exec_set_6_C (s : State) : Result State := doSetReg .i6 .c s

/-- `SET 6,D` (R195). -/
def exec_set_6_D (s : State) : Result State := doSetReg .i6 .d s

/-- `SET 6,E` (R195). -/
def exec_set_6_E (s : State) : Result State := doSetReg .i6 .e s

/-- `SET 6,H` (R195). -/
def exec_set_6_H (s : State) : Result State := doSetReg .i6 .h s

/-- `SET 6,L` (R195). -/
def exec_set_6_L (s : State) : Result State := doSetReg .i6 .l s

/-- `SET 6,A` (R195). -/
def exec_set_6_A (s : State) : Result State := doSetReg .i6 .a s

/-- `SET 7,B` (R195). -/
def exec_set_7_B (s : State) : Result State := doSetReg .i7 .b s

/-- `SET 7,C` (R195). -/
def exec_set_7_C (s : State) : Result State := doSetReg .i7 .c s

/-- `SET 7,D` (R195). -/
def exec_set_7_D (s : State) : Result State := doSetReg .i7 .d s

/-- `SET 7,E` (R195). -/
def exec_set_7_E (s : State) : Result State := doSetReg .i7 .e s

/-- `SET 7,H` (R195). -/
def exec_set_7_H (s : State) : Result State := doSetReg .i7 .h s

/-- `SET 7,L` (R195). -/
def exec_set_7_L (s : State) : Result State := doSetReg .i7 .l s

/-- `SET 7,A` (R195). -/
def exec_set_7_A (s : State) : Result State := doSetReg .i7 .a s

/-- `SET 0,(HL)` (R196). -/
def exec_set_0_at_HL (s : State) : Result State := doSetMem .i0 s

/-- `SET 1,(HL)` (R196). -/
def exec_set_1_at_HL (s : State) : Result State := doSetMem .i1 s

/-- `SET 2,(HL)` (R196). -/
def exec_set_2_at_HL (s : State) : Result State := doSetMem .i2 s

/-- `SET 3,(HL)` (R196). -/
def exec_set_3_at_HL (s : State) : Result State := doSetMem .i3 s

/-- `SET 4,(HL)` (R196). -/
def exec_set_4_at_HL (s : State) : Result State := doSetMem .i4 s

/-- `SET 5,(HL)` (R196). -/
def exec_set_5_at_HL (s : State) : Result State := doSetMem .i5 s

/-- `SET 6,(HL)` (R196). -/
def exec_set_6_at_HL (s : State) : Result State := doSetMem .i6 s

/-- `SET 7,(HL)` (R196). -/
def exec_set_7_at_HL (s : State) : Result State := doSetMem .i7 s

end Sys2Proof.Machine
end

