-- ==== Sys2Proof/Machine/Control.lean ====
section
/-! DEFINITION. Control transfer (45_control.md). `PC` is already past the instruction's bytes (R276): it is the return
address and the base of relative jumps. No instruction of this file writes a flag. -/

namespace Sys2Proof.Machine

/-! ## Shared operations, one for each rule's shape -/

/-- `JP nn` (R260). -/
def doJp (nn : Word) (s : State) : Result State := finish 4 { s with pc := nn }

/-- `JP cc,nn` (R261). -/
def doJpCc (cc : Cond) (nn : Word) (s : State) : Result State :=
  if s.holds cc then finish 4 { s with pc := nn } else finish 3 s

/-- `JP HL` (R262). -/
def doJpHl (s : State) : Result State := finish 1 { s with pc := s.pair .hl }

/-- `JR e` (R263). -/
def doJr (e : Byte) (s : State) : Result State := finish 3 { s with pc := s.pc + sext16 e }

/-- `JR cc,e` (R264). -/
def doJrCc (cc : Cond) (e : Byte) (s : State) : Result State :=
  if s.holds cc then finish 3 { s with pc := s.pc + sext16 e } else finish 2 s

/-- `CALL nn` (R265). -/
def doCall (nn : Word) (s : State) : Result State :=
  andThen (push16 s.pc s) fun t => finish 6 { t with pc := nn }

/-- `CALL cc,nn` (R266). -/
def doCallCc (cc : Cond) (nn : Word) (s : State) : Result State :=
  if s.holds cc then andThen (push16 s.pc s) fun t => finish 6 { t with pc := nn } else finish 3 s

/-- `RET` (R270). -/
def doRet (s : State) : Result State :=
  andThen (pop16 s) fun p => finish 4 { p.2 with pc := p.1 }

/-- `RET cc` (R271). -/
def doRetCc (cc : Cond) (s : State) : Result State :=
  if s.holds cc then andThen (pop16 s) fun p => finish 5 { p.2 with pc := p.1 } else finish 2 s

/-- `RETI` (R274). -/
def doReti (s : State) : Result State :=
  andThen (returnFromInterrupt s) fun t => finish 4 t

/-- `RST t` (R275): the target is `t * 8`. -/
def doRst (t : Ix8) (s : State) : Result State :=
  andThen (push16 s.pc s) fun u => finish 4 { u with pc := BitVec.ofNat 16 (t.toNat * 8) }

/-! ## The meaning of each row of the opcode table -/

/-- `JP nn` (R260). -/
def exec_jp_nn (nn : Word) (s : State) : Result State := doJp nn s

/-- `JP NZ,nn` (R261). -/
def exec_jp_NZ_nn (nn : Word) (s : State) : Result State := doJpCc .nz nn s

/-- `JP Z,nn` (R261). -/
def exec_jp_Z_nn (nn : Word) (s : State) : Result State := doJpCc .z nn s

/-- `JP NC,nn` (R261). -/
def exec_jp_NC_nn (nn : Word) (s : State) : Result State := doJpCc .nc nn s

/-- `JP C,nn` (R261). -/
def exec_jp_C_nn (nn : Word) (s : State) : Result State := doJpCc .c nn s

/-- `JP HL` (R262). -/
def exec_jp_HL (s : State) : Result State := doJpHl s

/-- `JR e` (R263). -/
def exec_jr_e (e : Byte) (s : State) : Result State := doJr e s

/-- `JR NZ,e` (R264). -/
def exec_jr_NZ_e (e : Byte) (s : State) : Result State := doJrCc .nz e s

/-- `JR Z,e` (R264). -/
def exec_jr_Z_e (e : Byte) (s : State) : Result State := doJrCc .z e s

/-- `JR NC,e` (R264). -/
def exec_jr_NC_e (e : Byte) (s : State) : Result State := doJrCc .nc e s

/-- `JR C,e` (R264). -/
def exec_jr_C_e (e : Byte) (s : State) : Result State := doJrCc .c e s

/-- `CALL nn` (R265). -/
def exec_call_nn (nn : Word) (s : State) : Result State := doCall nn s

/-- `CALL NZ,nn` (R266). -/
def exec_call_NZ_nn (nn : Word) (s : State) : Result State := doCallCc .nz nn s

/-- `CALL Z,nn` (R266). -/
def exec_call_Z_nn (nn : Word) (s : State) : Result State := doCallCc .z nn s

/-- `CALL NC,nn` (R266). -/
def exec_call_NC_nn (nn : Word) (s : State) : Result State := doCallCc .nc nn s

/-- `CALL C,nn` (R266). -/
def exec_call_C_nn (nn : Word) (s : State) : Result State := doCallCc .c nn s

/-- `RET` (R270). -/
def exec_ret (s : State) : Result State := doRet s

/-- `RET NZ` (R271). -/
def exec_ret_NZ (s : State) : Result State := doRetCc .nz s

/-- `RET Z` (R271). -/
def exec_ret_Z (s : State) : Result State := doRetCc .z s

/-- `RET NC` (R271). -/
def exec_ret_NC (s : State) : Result State := doRetCc .nc s

/-- `RET C` (R271). -/
def exec_ret_C (s : State) : Result State := doRetCc .c s

/-- `RETI` (R274). -/
def exec_reti (s : State) : Result State := doReti s

/-- `RST 0x00` (R275). -/
def exec_rst_00 (s : State) : Result State := doRst .i0 s

/-- `RST 0x08` (R275). -/
def exec_rst_08 (s : State) : Result State := doRst .i1 s

/-- `RST 0x10` (R275). -/
def exec_rst_10 (s : State) : Result State := doRst .i2 s

/-- `RST 0x18` (R275). -/
def exec_rst_18 (s : State) : Result State := doRst .i3 s

/-- `RST 0x20` (R275). -/
def exec_rst_20 (s : State) : Result State := doRst .i4 s

/-- `RST 0x28` (R275). -/
def exec_rst_28 (s : State) : Result State := doRst .i5 s

/-- `RST 0x30` (R275). -/
def exec_rst_30 (s : State) : Result State := doRst .i6 s

/-- `RST 0x38` (R275). -/
def exec_rst_38 (s : State) : Result State := doRst .i7 s

end Sys2Proof.Machine
end

