-- ==== Sys2Proof/Machine/Load16.lean ====
section
/-! DEFINITION. 16-bit loads and the stack (44_load16_stack.md). -/

namespace Sys2Proof.Machine

/-! ## Shared operations, one for each rule's shape -/

/-- `LD rr,nn` (R240). -/
def doLdPairImm (rr : Reg16) (nn : Word) (s : State) : Result State := finish 3 (s.setPair rr nn)

/-- `LD SP,HL` (R241). -/
def doLdSpHl (s : State) : Result State := finish 2 { s with sp := s.pair .hl }

/-- `LD (nn),SP` (R242): the high byte goes to `nn`. -/
def doLdAbsSp (nn : Word) (s : State) : Result State :=
  andThen (memWrite2 nn s.sp s) fun t => finish 5 t

/-- `LD HL,SP+e` (R245, decision D20). -/
def doLdHlSpE (e : Byte) (s : State) : Result State :=
  let r := add16 s.sp (sext16 e)
  finish 3 ((s.setPair .hl r.res).setFlags r.z r.n r.h r.c)

/-- `PUSH qq` (R248). -/
def doPush (q : RegStk) (s : State) : Result State :=
  andThen (push16 (s.stkPair q) s) fun t => finish 4 t

/-- `POP qq` (R249). -/
def doPop (q : RegStk) (s : State) : Result State :=
  andThen (pop16 s) fun p => finish 3 (p.2.setStkPair q p.1)

/-! ## The meaning of each row of the opcode table -/

/-- `LD BC,nn` (R240). -/
def exec_ld_BC_nn (nn : Word) (s : State) : Result State := doLdPairImm .bc nn s

/-- `LD DE,nn` (R240). -/
def exec_ld_DE_nn (nn : Word) (s : State) : Result State := doLdPairImm .de nn s

/-- `LD HL,nn` (R240). -/
def exec_ld_HL_nn (nn : Word) (s : State) : Result State := doLdPairImm .hl nn s

/-- `LD SP,nn` (R240). -/
def exec_ld_SP_nn (nn : Word) (s : State) : Result State := doLdPairImm .sp nn s

/-- `LD SP,HL` (R241). -/
def exec_ld_SP_HL (s : State) : Result State := doLdSpHl s

/-- `LD (nn),SP` (R242). -/
def exec_ld_at_nn_SP (nn : Word) (s : State) : Result State := doLdAbsSp nn s

/-- `LD HL,SP+e` (R245). -/
def exec_ld_HL_SPpluse (e : Byte) (s : State) : Result State := doLdHlSpE e s

/-- `PUSH BC` (R248). -/
def exec_push_BC (s : State) : Result State := doPush .bc s

/-- `PUSH DE` (R248). -/
def exec_push_DE (s : State) : Result State := doPush .de s

/-- `PUSH HL` (R248). -/
def exec_push_HL (s : State) : Result State := doPush .hl s

/-- `PUSH AF` (R248). -/
def exec_push_AF (s : State) : Result State := doPush .af s

/-- `POP BC` (R249). -/
def exec_pop_BC (s : State) : Result State := doPop .bc s

/-- `POP DE` (R249). -/
def exec_pop_DE (s : State) : Result State := doPop .de s

/-- `POP HL` (R249). -/
def exec_pop_HL (s : State) : Result State := doPop .hl s

/-- `POP AF` (R249). -/
def exec_pop_AF (s : State) : Result State := doPop .af s

end Sys2Proof.Machine
end

