-- ==== Sys2Proof/Machine/Load8.lean ====
section
/-! DEFINITION. 8-bit loads and stores (43_load8.md). No instruction of this file writes a flag. -/

namespace Sys2Proof.Machine

/-! ## Shared operations, one for each rule's shape -/

/-- `LD r,r'` (R210). -/
def doLdRegReg (dst src : Reg8) (s : State) : Result State := finish 1 (s.setReg dst (s.reg src))

/-- `LD r,n` (R211). -/
def doLdRegImm (dst : Reg8) (n : Byte) (s : State) : Result State := finish 2 (s.setReg dst n)

/-- `LD r,(HL)` (R212): the address is the old `HL`. -/
def doLdRegMem (dst : Reg8) (s : State) : Result State :=
  andThen (memRead (s.pair .hl) s) fun p => finish 2 (p.2.setReg dst p.1)

/-- `LD (HL),r` (R213). -/
def doLdMemReg (r : Reg8) (s : State) : Result State :=
  andThen (memWrite (s.pair .hl) (s.reg r) s) fun t => finish 2 t

/-- `LD (HL),n` (R214). -/
def doLdMemImm (n : Byte) (s : State) : Result State :=
  andThen (memWrite (s.pair .hl) n s) fun t => finish 3 t

/-- `LD A,(BC)`, `LD A,(DE)`, `LD A,(HL+)`, `LD A,(HL-)` (R215, R216, R226, R228). -/
def doLdAPtr (p : Ptr) (s : State) : Result State :=
  andThen (memRead (s.ptrAddr p) s) fun q => finish 2 ((q.2.setReg .a q.1).ptrAfter p)

/-- `LD (BC),A`, `LD (DE),A`, `LD (HL+),A`, `LD (HL-),A` (R217, R218, R225, R227). -/
def doLdPtrA (p : Ptr) (s : State) : Result State :=
  andThen (memWrite (s.ptrAddr p) s.regs.a s) fun t => finish 2 (t.ptrAfter p)

/-- `LD A,(nn)` (R219). -/
def doLdAAbs (nn : Word) (s : State) : Result State :=
  andThen (memRead nn s) fun p => finish 4 (p.2.setReg .a p.1)

/-- `LD (nn),A` (R220). -/
def doLdAbsA (nn : Word) (s : State) : Result State :=
  andThen (memWrite nn s.regs.a s) fun t => finish 4 t

/-- `LDH A,(n)` (R221). -/
def doLdAPort (n : Byte) (s : State) : Result State :=
  andThen (memRead (zeroPage n) s) fun p => finish 3 (p.2.setReg .a p.1)

/-- `LDH (n),A` (R222). -/
def doLdPortA (n : Byte) (s : State) : Result State :=
  andThen (memWrite (zeroPage n) s.regs.a s) fun t => finish 3 t

/-- `LD A,(C)` (R223). -/
def doLdAPortC (s : State) : Result State :=
  andThen (memRead (zeroPage s.regs.c) s) fun p => finish 2 (p.2.setReg .a p.1)

/-- `LD (C),A` (R224). -/
def doLdPortCA (s : State) : Result State :=
  andThen (memWrite (zeroPage s.regs.c) s.regs.a s) fun t => finish 2 t

/-! ## The meaning of each row of the opcode table -/

/-- `LD B,B` (R210). -/
def exec_ld_B_B (s : State) : Result State := doLdRegReg .b .b s

/-- `LD B,C` (R210). -/
def exec_ld_B_C (s : State) : Result State := doLdRegReg .b .c s

/-- `LD B,D` (R210). -/
def exec_ld_B_D (s : State) : Result State := doLdRegReg .b .d s

/-- `LD B,E` (R210). -/
def exec_ld_B_E (s : State) : Result State := doLdRegReg .b .e s

/-- `LD B,H` (R210). -/
def exec_ld_B_H (s : State) : Result State := doLdRegReg .b .h s

/-- `LD B,L` (R210). -/
def exec_ld_B_L (s : State) : Result State := doLdRegReg .b .l s

/-- `LD B,A` (R210). -/
def exec_ld_B_A (s : State) : Result State := doLdRegReg .b .a s

/-- `LD C,B` (R210). -/
def exec_ld_C_B (s : State) : Result State := doLdRegReg .c .b s

/-- `LD C,C` (R210). -/
def exec_ld_C_C (s : State) : Result State := doLdRegReg .c .c s

/-- `LD C,D` (R210). -/
def exec_ld_C_D (s : State) : Result State := doLdRegReg .c .d s

/-- `LD C,E` (R210). -/
def exec_ld_C_E (s : State) : Result State := doLdRegReg .c .e s

/-- `LD C,H` (R210). -/
def exec_ld_C_H (s : State) : Result State := doLdRegReg .c .h s

/-- `LD C,L` (R210). -/
def exec_ld_C_L (s : State) : Result State := doLdRegReg .c .l s

/-- `LD C,A` (R210). -/
def exec_ld_C_A (s : State) : Result State := doLdRegReg .c .a s

/-- `LD D,B` (R210). -/
def exec_ld_D_B (s : State) : Result State := doLdRegReg .d .b s

/-- `LD D,C` (R210). -/
def exec_ld_D_C (s : State) : Result State := doLdRegReg .d .c s

/-- `LD D,D` (R210). -/
def exec_ld_D_D (s : State) : Result State := doLdRegReg .d .d s

/-- `LD D,E` (R210). -/
def exec_ld_D_E (s : State) : Result State := doLdRegReg .d .e s

/-- `LD D,H` (R210). -/
def exec_ld_D_H (s : State) : Result State := doLdRegReg .d .h s

/-- `LD D,L` (R210). -/
def exec_ld_D_L (s : State) : Result State := doLdRegReg .d .l s

/-- `LD D,A` (R210). -/
def exec_ld_D_A (s : State) : Result State := doLdRegReg .d .a s

/-- `LD E,B` (R210). -/
def exec_ld_E_B (s : State) : Result State := doLdRegReg .e .b s

/-- `LD E,C` (R210). -/
def exec_ld_E_C (s : State) : Result State := doLdRegReg .e .c s

/-- `LD E,D` (R210). -/
def exec_ld_E_D (s : State) : Result State := doLdRegReg .e .d s

/-- `LD E,E` (R210). -/
def exec_ld_E_E (s : State) : Result State := doLdRegReg .e .e s

/-- `LD E,H` (R210). -/
def exec_ld_E_H (s : State) : Result State := doLdRegReg .e .h s

/-- `LD E,L` (R210). -/
def exec_ld_E_L (s : State) : Result State := doLdRegReg .e .l s

/-- `LD E,A` (R210). -/
def exec_ld_E_A (s : State) : Result State := doLdRegReg .e .a s

/-- `LD H,B` (R210). -/
def exec_ld_H_B (s : State) : Result State := doLdRegReg .h .b s

/-- `LD H,C` (R210). -/
def exec_ld_H_C (s : State) : Result State := doLdRegReg .h .c s

/-- `LD H,D` (R210). -/
def exec_ld_H_D (s : State) : Result State := doLdRegReg .h .d s

/-- `LD H,E` (R210). -/
def exec_ld_H_E (s : State) : Result State := doLdRegReg .h .e s

/-- `LD H,H` (R210). -/
def exec_ld_H_H (s : State) : Result State := doLdRegReg .h .h s

/-- `LD H,L` (R210). -/
def exec_ld_H_L (s : State) : Result State := doLdRegReg .h .l s

/-- `LD H,A` (R210). -/
def exec_ld_H_A (s : State) : Result State := doLdRegReg .h .a s

/-- `LD L,B` (R210). -/
def exec_ld_L_B (s : State) : Result State := doLdRegReg .l .b s

/-- `LD L,C` (R210). -/
def exec_ld_L_C (s : State) : Result State := doLdRegReg .l .c s

/-- `LD L,D` (R210). -/
def exec_ld_L_D (s : State) : Result State := doLdRegReg .l .d s

/-- `LD L,E` (R210). -/
def exec_ld_L_E (s : State) : Result State := doLdRegReg .l .e s

/-- `LD L,H` (R210). -/
def exec_ld_L_H (s : State) : Result State := doLdRegReg .l .h s

/-- `LD L,L` (R210). -/
def exec_ld_L_L (s : State) : Result State := doLdRegReg .l .l s

/-- `LD L,A` (R210). -/
def exec_ld_L_A (s : State) : Result State := doLdRegReg .l .a s

/-- `LD A,B` (R210). -/
def exec_ld_A_B (s : State) : Result State := doLdRegReg .a .b s

/-- `LD A,C` (R210). -/
def exec_ld_A_C (s : State) : Result State := doLdRegReg .a .c s

/-- `LD A,D` (R210). -/
def exec_ld_A_D (s : State) : Result State := doLdRegReg .a .d s

/-- `LD A,E` (R210). -/
def exec_ld_A_E (s : State) : Result State := doLdRegReg .a .e s

/-- `LD A,H` (R210). -/
def exec_ld_A_H (s : State) : Result State := doLdRegReg .a .h s

/-- `LD A,L` (R210). -/
def exec_ld_A_L (s : State) : Result State := doLdRegReg .a .l s

/-- `LD A,A` (R210). -/
def exec_ld_A_A (s : State) : Result State := doLdRegReg .a .a s

/-- `LD B,n` (R211). -/
def exec_ld_B_n (n : Byte) (s : State) : Result State := doLdRegImm .b n s

/-- `LD C,n` (R211). -/
def exec_ld_C_n (n : Byte) (s : State) : Result State := doLdRegImm .c n s

/-- `LD D,n` (R211). -/
def exec_ld_D_n (n : Byte) (s : State) : Result State := doLdRegImm .d n s

/-- `LD E,n` (R211). -/
def exec_ld_E_n (n : Byte) (s : State) : Result State := doLdRegImm .e n s

/-- `LD H,n` (R211). -/
def exec_ld_H_n (n : Byte) (s : State) : Result State := doLdRegImm .h n s

/-- `LD L,n` (R211). -/
def exec_ld_L_n (n : Byte) (s : State) : Result State := doLdRegImm .l n s

/-- `LD A,n` (R211). -/
def exec_ld_A_n (n : Byte) (s : State) : Result State := doLdRegImm .a n s

/-- `LD B,(HL)` (R212). -/
def exec_ld_B_at_HL (s : State) : Result State := doLdRegMem .b s

/-- `LD C,(HL)` (R212). -/
def exec_ld_C_at_HL (s : State) : Result State := doLdRegMem .c s

/-- `LD D,(HL)` (R212). -/
def exec_ld_D_at_HL (s : State) : Result State := doLdRegMem .d s

/-- `LD E,(HL)` (R212). -/
def exec_ld_E_at_HL (s : State) : Result State := doLdRegMem .e s

/-- `LD H,(HL)` (R212). -/
def exec_ld_H_at_HL (s : State) : Result State := doLdRegMem .h s

/-- `LD L,(HL)` (R212). -/
def exec_ld_L_at_HL (s : State) : Result State := doLdRegMem .l s

/-- `LD A,(HL)` (R212). -/
def exec_ld_A_at_HL (s : State) : Result State := doLdRegMem .a s

/-- `LD (HL),B` (R213). -/
def exec_ld_at_HL_B (s : State) : Result State := doLdMemReg .b s

/-- `LD (HL),C` (R213). -/
def exec_ld_at_HL_C (s : State) : Result State := doLdMemReg .c s

/-- `LD (HL),D` (R213). -/
def exec_ld_at_HL_D (s : State) : Result State := doLdMemReg .d s

/-- `LD (HL),E` (R213). -/
def exec_ld_at_HL_E (s : State) : Result State := doLdMemReg .e s

/-- `LD (HL),H` (R213). -/
def exec_ld_at_HL_H (s : State) : Result State := doLdMemReg .h s

/-- `LD (HL),L` (R213). -/
def exec_ld_at_HL_L (s : State) : Result State := doLdMemReg .l s

/-- `LD (HL),A` (R213). -/
def exec_ld_at_HL_A (s : State) : Result State := doLdMemReg .a s

/-- `LD (HL),n` (R214). -/
def exec_ld_at_HL_n (n : Byte) (s : State) : Result State := doLdMemImm n s

/-- `LD A,(BC)` (R215). -/
def exec_ld_A_at_BC (s : State) : Result State := doLdAPtr .bc s

/-- `LD A,(DE)` (R216). -/
def exec_ld_A_at_DE (s : State) : Result State := doLdAPtr .de s

/-- `LD A,(HL+)` (R226). -/
def exec_ld_A_at_HLplus (s : State) : Result State := doLdAPtr .hlInc s

/-- `LD A,(HL-)` (R228). -/
def exec_ld_A_at_HLminus (s : State) : Result State := doLdAPtr .hlDec s

/-- `LD (BC),A` (R217). -/
def exec_ld_at_BC_A (s : State) : Result State := doLdPtrA .bc s

/-- `LD (DE),A` (R218). -/
def exec_ld_at_DE_A (s : State) : Result State := doLdPtrA .de s

/-- `LD (HL+),A` (R225). -/
def exec_ld_at_HLplus_A (s : State) : Result State := doLdPtrA .hlInc s

/-- `LD (HL-),A` (R227). -/
def exec_ld_at_HLminus_A (s : State) : Result State := doLdPtrA .hlDec s

/-- `LD A,(nn)` (R219). -/
def exec_ld_A_at_nn (nn : Word) (s : State) : Result State := doLdAAbs nn s

/-- `LD (nn),A` (R220). -/
def exec_ld_at_nn_A (nn : Word) (s : State) : Result State := doLdAbsA nn s

/-- `LDH A,(n)` (R221). -/
def exec_ldh_A_at_n (n : Byte) (s : State) : Result State := doLdAPort n s

/-- `LDH (n),A` (R222). -/
def exec_ldh_at_n_A (n : Byte) (s : State) : Result State := doLdPortA n s

/-- `LD A,(C)` (R223). -/
def exec_ld_A_at_C (s : State) : Result State := doLdAPortC s

/-- `LD (C),A` (R224). -/
def exec_ld_at_C_A (s : State) : Result State := doLdPortCA s

end Sys2Proof.Machine
end

