-- ==== Sys2Proof/Machine/RotateShift.lean ====
section
/-! DEFINITION. Rotates, shifts and swap (42_rotate_shift_bit.md sections 2 and 3). -/

namespace Sys2Proof.Machine

/-! ## Shared operations, one for each rule's shape -/

/-- The accumulator rotates (R170 to R173): Zero is always cleared. -/
def doAccRot (op : AccRot) (s : State) : Result State :=
  let r := rotate (accRotOp op) s.regs.a s.flagC
  finish 1 ((s.setReg .a r.res).setFlags false false false r.c)

/-- The secondary-table transforms on a register (R175, R177, R179, R181, R183, R185, R187, R189). -/
def doRotReg (op : RotOp) (r : Reg8) (s : State) : Result State :=
  let x := rotate op (s.reg r) s.flagC
  finish 2 ((s.setReg r x.res).setRotFlags x)

/-- The secondary-table transforms on the byte at `HL` (R176, R178, R180, R182, R184, R186, R188, R190). -/
def doRotMem (op : RotOp) (s : State) : Result State :=
  andThen (memRead (s.pair .hl) s) fun p =>
    andThen (memWrite (s.pair .hl) (rotate op p.1 s.flagC).res p.2) fun t =>
      finish 4 (t.setRotFlags (rotate op p.1 s.flagC))

/-! ## The meaning of each row of the opcode table -/

/-- `RLCA` (R170). -/
def exec_rlca (s : State) : Result State := doAccRot .rlca s

/-- `RRCA` (R172). -/
def exec_rrca (s : State) : Result State := doAccRot .rrca s

/-- `RLA` (R171). -/
def exec_rla (s : State) : Result State := doAccRot .rla s

/-- `RRA` (R173). -/
def exec_rra (s : State) : Result State := doAccRot .rra s

/-- `RLC B` (R175). -/
def exec_rlc_B (s : State) : Result State := doRotReg .rlc .b s

/-- `RLC C` (R175). -/
def exec_rlc_C (s : State) : Result State := doRotReg .rlc .c s

/-- `RLC D` (R175). -/
def exec_rlc_D (s : State) : Result State := doRotReg .rlc .d s

/-- `RLC E` (R175). -/
def exec_rlc_E (s : State) : Result State := doRotReg .rlc .e s

/-- `RLC H` (R175). -/
def exec_rlc_H (s : State) : Result State := doRotReg .rlc .h s

/-- `RLC L` (R175). -/
def exec_rlc_L (s : State) : Result State := doRotReg .rlc .l s

/-- `RLC A` (R175). -/
def exec_rlc_A (s : State) : Result State := doRotReg .rlc .a s

/-- `RRC B` (R177). -/
def exec_rrc_B (s : State) : Result State := doRotReg .rrc .b s

/-- `RRC C` (R177). -/
def exec_rrc_C (s : State) : Result State := doRotReg .rrc .c s

/-- `RRC D` (R177). -/
def exec_rrc_D (s : State) : Result State := doRotReg .rrc .d s

/-- `RRC E` (R177). -/
def exec_rrc_E (s : State) : Result State := doRotReg .rrc .e s

/-- `RRC H` (R177). -/
def exec_rrc_H (s : State) : Result State := doRotReg .rrc .h s

/-- `RRC L` (R177). -/
def exec_rrc_L (s : State) : Result State := doRotReg .rrc .l s

/-- `RRC A` (R177). -/
def exec_rrc_A (s : State) : Result State := doRotReg .rrc .a s

/-- `RL B` (R179). -/
def exec_rl_B (s : State) : Result State := doRotReg .rl .b s

/-- `RL C` (R179). -/
def exec_rl_C (s : State) : Result State := doRotReg .rl .c s

/-- `RL D` (R179). -/
def exec_rl_D (s : State) : Result State := doRotReg .rl .d s

/-- `RL E` (R179). -/
def exec_rl_E (s : State) : Result State := doRotReg .rl .e s

/-- `RL H` (R179). -/
def exec_rl_H (s : State) : Result State := doRotReg .rl .h s

/-- `RL L` (R179). -/
def exec_rl_L (s : State) : Result State := doRotReg .rl .l s

/-- `RL A` (R179). -/
def exec_rl_A (s : State) : Result State := doRotReg .rl .a s

/-- `RR B` (R181). -/
def exec_rr_B (s : State) : Result State := doRotReg .rr .b s

/-- `RR C` (R181). -/
def exec_rr_C (s : State) : Result State := doRotReg .rr .c s

/-- `RR D` (R181). -/
def exec_rr_D (s : State) : Result State := doRotReg .rr .d s

/-- `RR E` (R181). -/
def exec_rr_E (s : State) : Result State := doRotReg .rr .e s

/-- `RR H` (R181). -/
def exec_rr_H (s : State) : Result State := doRotReg .rr .h s

/-- `RR L` (R181). -/
def exec_rr_L (s : State) : Result State := doRotReg .rr .l s

/-- `RR A` (R181). -/
def exec_rr_A (s : State) : Result State := doRotReg .rr .a s

/-- `SLA B` (R183). -/
def exec_sla_B (s : State) : Result State := doRotReg .sla .b s

/-- `SLA C` (R183). -/
def exec_sla_C (s : State) : Result State := doRotReg .sla .c s

/-- `SLA D` (R183). -/
def exec_sla_D (s : State) : Result State := doRotReg .sla .d s

/-- `SLA E` (R183). -/
def exec_sla_E (s : State) : Result State := doRotReg .sla .e s

/-- `SLA H` (R183). -/
def exec_sla_H (s : State) : Result State := doRotReg .sla .h s

/-- `SLA L` (R183). -/
def exec_sla_L (s : State) : Result State := doRotReg .sla .l s

/-- `SLA A` (R183). -/
def exec_sla_A (s : State) : Result State := doRotReg .sla .a s

/-- `SRA B` (R185). -/
def exec_sra_B (s : State) : Result State := doRotReg .sra .b s

/-- `SRA C` (R185). -/
def exec_sra_C (s : State) : Result State := doRotReg .sra .c s

/-- `SRA D` (R185). -/
def exec_sra_D (s : State) : Result State := doRotReg .sra .d s

/-- `SRA E` (R185). -/
def exec_sra_E (s : State) : Result State := doRotReg .sra .e s

/-- `SRA H` (R185). -/
def exec_sra_H (s : State) : Result State := doRotReg .sra .h s

/-- `SRA L` (R185). -/
def exec_sra_L (s : State) : Result State := doRotReg .sra .l s

/-- `SRA A` (R185). -/
def exec_sra_A (s : State) : Result State := doRotReg .sra .a s

/-- `SWAP B` (R187). -/
def exec_swap_B (s : State) : Result State := doRotReg .swap .b s

/-- `SWAP C` (R187). -/
def exec_swap_C (s : State) : Result State := doRotReg .swap .c s

/-- `SWAP D` (R187). -/
def exec_swap_D (s : State) : Result State := doRotReg .swap .d s

/-- `SWAP E` (R187). -/
def exec_swap_E (s : State) : Result State := doRotReg .swap .e s

/-- `SWAP H` (R187). -/
def exec_swap_H (s : State) : Result State := doRotReg .swap .h s

/-- `SWAP L` (R187). -/
def exec_swap_L (s : State) : Result State := doRotReg .swap .l s

/-- `SWAP A` (R187). -/
def exec_swap_A (s : State) : Result State := doRotReg .swap .a s

/-- `SRL B` (R189). -/
def exec_srl_B (s : State) : Result State := doRotReg .srl .b s

/-- `SRL C` (R189). -/
def exec_srl_C (s : State) : Result State := doRotReg .srl .c s

/-- `SRL D` (R189). -/
def exec_srl_D (s : State) : Result State := doRotReg .srl .d s

/-- `SRL E` (R189). -/
def exec_srl_E (s : State) : Result State := doRotReg .srl .e s

/-- `SRL H` (R189). -/
def exec_srl_H (s : State) : Result State := doRotReg .srl .h s

/-- `SRL L` (R189). -/
def exec_srl_L (s : State) : Result State := doRotReg .srl .l s

/-- `SRL A` (R189). -/
def exec_srl_A (s : State) : Result State := doRotReg .srl .a s

/-- `RLC (HL)` (R176). -/
def exec_rlc_at_HL (s : State) : Result State := doRotMem .rlc s

/-- `RRC (HL)` (R178). -/
def exec_rrc_at_HL (s : State) : Result State := doRotMem .rrc s

/-- `RL (HL)` (R180). -/
def exec_rl_at_HL (s : State) : Result State := doRotMem .rl s

/-- `RR (HL)` (R182). -/
def exec_rr_at_HL (s : State) : Result State := doRotMem .rr s

/-- `SLA (HL)` (R184). -/
def exec_sla_at_HL (s : State) : Result State := doRotMem .sla s

/-- `SRA (HL)` (R186). -/
def exec_sra_at_HL (s : State) : Result State := doRotMem .sra s

/-- `SWAP (HL)` (R188). -/
def exec_swap_at_HL (s : State) : Result State := doRotMem .swap s

/-- `SRL (HL)` (R190). -/
def exec_srl_at_HL (s : State) : Result State := doRotMem .srl s

end Sys2Proof.Machine
end

