-- ==== Sys2Proof/Machine/System.lean ====
section
/-! DEFINITION. System instructions, the prefix row and the undefined rows (46_system.md). -/

namespace Sys2Proof.Machine

/-! ## Shared operations, one for each rule's shape -/

/-- `NOP` (R280). -/
def doNop (s : State) : Result State := finish 1 s

/-- `HALT` (R281). -/
def doHalt (s : State) : Result State := finish 1 { s with halted := true }

/-- `STOP` (R282, decision D17): the byte at `PC` is looked at, and consumed only if it is zero. -/
def doStop (s : State) : Result State :=
  andThen (memRead s.pc s) fun p =>
    if p.1 = 0#8 then finish 1 { p.2 with pc := p.2.pc + 1, halted := true } else finish 1 p.2

/-- `DI` (R283). -/
def doDi (s : State) : Result State := finish 1 { s with diPending := Config.timerArm }

/-- `EI` (R284). -/
def doEi (s : State) : Result State := finish 1 { s with eiPending := Config.timerArm }

/-- The secondary table entry of a byte, by the fields of 30_encoding.md R91. -/
def secondaryEntry (op2 : Byte) (s : State) : Result State :=
  match fieldX op2, r8 (fieldZ op2) with
  | 0, some r => doRotReg (rotOf (fieldY op2)) r s
  | 0, none => doRotMem (rotOf (fieldY op2)) s
  | 1, some r => doBitReg (ix8 (fieldY op2)) r s
  | 1, none => doBitMem (ix8 (fieldY op2)) s
  | 2, some r => doResReg (ix8 (fieldY op2)) r s
  | 2, none => doResMem (ix8 (fieldY op2)) s
  | _, some r => doSetReg (ix8 (fieldY op2)) r s
  | _, none => doSetMem (ix8 (fieldY op2)) s

/-- The prefix byte 0xCB on its own row (R285): `op2 <- Fetch8()`, then the secondary table entry `op2`. The decoder reads
the two bytes as one instruction (30_encoding.md R92), so no step reaches this row (log 9). -/
def doPrefixCb (s : State) : Result State :=
  andThen (fetch8 s) fun p => secondaryEntry p.1 p.2

/-- An undefined primary opcode (R286): the record carries its value and the address it was fetched from (60_exceptions.md
R302), which is the one before `PC` (log 10). -/
def doUndefinedOp (u : UndefOp) (s : State) : Result State := raise (.unknownOpcode u.byte (s.pc - 1))

/-! ## The meaning of each row of the opcode table -/

/-- `NOP` (R280). -/
def exec_nop (s : State) : Result State := doNop s

/-- `HALT` (R281). -/
def exec_halt (s : State) : Result State := doHalt s

/-- `STOP` (R282). -/
def exec_stop (s : State) : Result State := doStop s

/-- `DI` (R283). -/
def exec_di (s : State) : Result State := doDi s

/-- `EI` (R284). -/
def exec_ei (s : State) : Result State := doEi s

/-- `PREFIX CB` (R285). -/
def exec_prefix_CB (s : State) : Result State := doPrefixCb s

/-- `UNDEFINED_D3` (R286). -/
def exec_undefined_D3 (s : State) : Result State := doUndefinedOp .uD3 s

/-- `UNDEFINED_DB` (R286). -/
def exec_undefined_DB (s : State) : Result State := doUndefinedOp .uDB s

/-- `UNDEFINED_DD` (R286). -/
def exec_undefined_DD (s : State) : Result State := doUndefinedOp .uDD s

/-- `UNDEFINED_E3` (R286). -/
def exec_undefined_E3 (s : State) : Result State := doUndefinedOp .uE3 s

/-- `UNDEFINED_E4` (R286). -/
def exec_undefined_E4 (s : State) : Result State := doUndefinedOp .uE4 s

/-- `UNDEFINED_EB` (R286). -/
def exec_undefined_EB (s : State) : Result State := doUndefinedOp .uEB s

/-- `UNDEFINED_EC` (R286). -/
def exec_undefined_EC (s : State) : Result State := doUndefinedOp .uEC s

/-- `UNDEFINED_ED` (R286). -/
def exec_undefined_ED (s : State) : Result State := doUndefinedOp .uED s

/-- `UNDEFINED_F4` (R286). -/
def exec_undefined_F4 (s : State) : Result State := doUndefinedOp .uF4 s

/-- `UNDEFINED_FC` (R286). -/
def exec_undefined_FC (s : State) : Result State := doUndefinedOp .uFC s

/-- `UNDEFINED_FD` (R286). -/
def exec_undefined_FD (s : State) : Result State := doUndefinedOp .uFD s

end Sys2Proof.Machine
end

