-- ==== Sys2Proof/Machine/Step.lean ====
section
/-! DEFINITION. One step of the machine. -/

namespace Sys2Proof.Machine

/-- `Step()` (30_encoding.md R80). -/
def step (s : State) : Host.Outcome State Fault Refusal := runStep exec s

/-- The state with a table word's instruction where the next step fetches (log 4). -/
def State.withFetchWord (s : State) (nbits w : Nat) : State := placeWord nbits w s

end Sys2Proof.Machine
end

