-- ==== Sys2Proof/Machine/Cartridge.lean ====
section
/-! DEFINITION. The cartridge port: construction of a session (20_memory.md R42, 70_reset_and_hazards.md R331), the header
fields (R70) and the ROM dump (R71). No step depends on this file. -/

namespace Sys2Proof.Machine

/-- Construction (20_memory.md R42, 70_reset_and_hazards.md R331): the cartridge image `ROM`, the `INIT_MEM` bytes of
`vram`, `wram`, `hram` and `io_if` (00_scope.md R5), and the CPU at its reset values. -/
def State.construct (image vram wram hram : List Byte) (ioIf : Byte) : State :=
  { State.reset with
    mem := Memory.load (Memory.load (Memory.load (Memory.load [] 0 (image.take 0x8000)) 0x8000 (vram.take 0x2000))
      0xC000 (wram.take 0x2000)) 0xFF80 (hram.take 0x80)
    ioIf := ioIf
    romLength := image.length
    romTail := image.drop 0x8000 }

/-- The whole `rom` array of a session as it stands, stores into it included (20_memory.md R43, R71). -/
def State.romBytes (s : State) : List Byte :=
  (List.range s.romLength).map fun k => if k < 0x8000 then s.mem.get k else s.romTail.getD (k - 0x8000) 0

/-- The header fields of an image (20_memory.md R70). The text encoding of the title is not stated (91_not_in_source.md
N12), so the title is its bytes. -/
structure Header where
  title : List Byte
  color : Bool
  extended : Bool
  cartridgeType : Byte
  romSizeCode : Byte
  ramSizeCode : Byte
  region : Bool
  deriving DecidableEq, Repr

/-- "trailing null bytes stripped" (20_memory.md R70). -/
def stripNulls (bytes : List Byte) : List Byte := (bytes.reverse.dropWhile (fun v => decide (v = 0#8))).reverse

/-- The header of an image (20_memory.md R70); an image too short to hold one has none
(93_implementation_defined.md U18). -/
def Header.parse (image : List Byte) : Option Header :=
  if image.length < 0x14B then none
  else some
    { title := stripNulls ((image.drop 0x134).take 15)
      color := decide (image.getD 0x143 0 = 0x80#8)
      extended := decide (image.getD 0x146 0 = 0x03#8)
      cartridgeType := image.getD 0x147 0
      romSizeCode := image.getD 0x148 0
      ramSizeCode := image.getD 0x149 0
      region := decide (image.getD 0x14A 0 = 0#8) }

/-- One line of the ROM dump (20_memory.md R71): the byte offset, which is printed in decimal, the bytes, which are
printed as two hexadecimal digits each, and their text. -/
structure DumpLine where
  offset : Nat
  bytes : List Byte
  text : List Char
  deriving DecidableEq, Repr

/-- "rendered as ASCII where printable (0x20–0x7E) or `.` otherwise" (20_memory.md R71). -/
def dumpChar (v : Byte) : Char :=
  if 0x20 ≤ v.toNat ∧ v.toNat ≤ 0x7E then Char.ofNat v.toNat else '.'

/-- The lines of a dump from an offset on, at most `fuel` of them. -/
def dumpLines (fuel offset : Nat) (bytes : List Byte) : List DumpLine :=
  match fuel with
  | 0 => []
  | k + 1 =>
    match bytes with
    | [] => []
    | v :: rest =>
      let line := (v :: rest).take 16
      { offset := offset, bytes := line, text := line.map dumpChar } :: dumpLines k (offset + 16) ((v :: rest).drop 16)

/-- `renderRomDump()` (20_memory.md R71): sixteen bytes a line. -/
def romDump (rom : List Byte) : List DumpLine := dumpLines rom.length 0 rom

end Sys2Proof.Machine
end

