-- ==== Sys2Proof/Machine/Frames.lean ====
section
/-! DEFINITION. What each instruction may write, by its form (10_state.md R16; 20_memory.md R63; the rule of each form):
the write sets that the frame statements are stated with. -/

namespace Sys2Proof.Machine

/-- The register is a half of the pair. -/
def inPair (rr : Reg16) (r : Reg8) : Bool :=
  match rr with
  | .bc => decide (r = .b) || decide (r = .c)
  | .de => decide (r = .d) || decide (r = .e)
  | .hl => decide (r = .h) || decide (r = .l)
  | .sp => false

/-- The register is a half of the pair (`F` apart). -/
def inStkPair (q : RegStk) (r : Reg8) : Bool :=
  match q with
  | .bc => inPair .bc r
  | .de => inPair .de r
  | .hl => inPair .hl r
  | .af => decide (r = .a)

/-- The access moves `HL` (43_load8.md R229). -/
def ptrMoves (p : Ptr) : Bool :=
  match p with
  | .bc => false
  | .de => false
  | .hlInc => true
  | .hlDec => true

/-- The general registers an instruction may write. -/
def formWritesReg (f : Form) (r : Reg8) : Bool :=
  match f with
  | .ldRegReg dst _ => decide (r = dst)
  | .ldRegImm dst _ => decide (r = dst)
  | .ldRegMem dst => decide (r = dst)
  | .ldMemReg _ => false
  | .ldMemImm _ => false
  | .ldAPtr p => decide (r = .a) || (ptrMoves p && inPair .hl r)
  | .ldPtrA p => ptrMoves p && inPair .hl r
  | .ldAAbs _ => decide (r = .a)
  | .ldAbsA _ => false
  | .ldAPort _ => decide (r = .a)
  | .ldPortA _ => false
  | .ldAPortC => decide (r = .a)
  | .ldPortCA => false
  | .ldPairImm rr _ => inPair rr r
  | .ldSpHl => false
  | .ldAbsSp _ => false
  | .ldHlSpE _ => inPair .hl r
  | .push _ => false
  | .pop q => inStkPair q r
  | .aluReg op _ => decide (op ≠ .cp) && decide (r = .a)
  | .aluMem op => decide (op ≠ .cp) && decide (r = .a)
  | .aluImm op _ => decide (op ≠ .cp) && decide (r = .a)
  | .incReg x => decide (r = x)
  | .incMem => false
  | .decReg x => decide (r = x)
  | .decMem => false
  | .daa => decide (r = .a)
  | .cpl => decide (r = .a)
  | .scf => false
  | .ccf => false
  | .addHl _ => inPair .hl r
  | .addSpE _ => false
  | .incPair rr => inPair rr r
  | .decPair rr => inPair rr r
  | .accRot _ => decide (r = .a)
  | .rotReg _ x => decide (r = x)
  | .rotMem _ => false
  | .bitReg _ _ => false
  | .bitMem _ => false
  | .resReg _ x => decide (r = x)
  | .resMem _ => false
  | .setReg _ x => decide (r = x)
  | .setMem _ => false
  | .jp _ => false
  | .jpCc _ _ => false
  | .jpHl => false
  | .jr _ => false
  | .jrCc _ _ => false
  | .call _ => false
  | .callCc _ _ => false
  | .ret => false
  | .retCc _ => false
  | .reti => false
  | .rst _ => false
  | .nop => false
  | .halt => false
  | .stop => false
  | .di => false
  | .ei => false
  | .prefixCb => true
  | .undefined _ => false

/-- The instruction may write flags (10_state.md R16). -/
def formWritesFlags (f : Form) : Bool :=
  match f with
  | .ldRegReg _ _ => false
  | .ldRegImm _ _ => false
  | .ldRegMem _ => false
  | .ldMemReg _ => false
  | .ldMemImm _ => false
  | .ldAPtr _ => false
  | .ldPtrA _ => false
  | .ldAAbs _ => false
  | .ldAbsA _ => false
  | .ldAPort _ => false
  | .ldPortA _ => false
  | .ldAPortC => false
  | .ldPortCA => false
  | .ldPairImm _ _ => false
  | .ldSpHl => false
  | .ldAbsSp _ => false
  | .ldHlSpE _ => true
  | .push _ => false
  | .pop q => decide (q = .af)
  | .aluReg _ _ => true
  | .aluMem _ => true
  | .aluImm _ _ => true
  | .incReg _ => true
  | .incMem => true
  | .decReg _ => true
  | .decMem => true
  | .daa => true
  | .cpl => true
  | .scf => true
  | .ccf => true
  | .addHl _ => true
  | .addSpE _ => true
  | .incPair _ => false
  | .decPair _ => false
  | .accRot _ => true
  | .rotReg _ _ => true
  | .rotMem _ => true
  | .bitReg _ _ => true
  | .bitMem _ => true
  | .resReg _ _ => false
  | .resMem _ => false
  | .setReg _ _ => false
  | .setMem _ => false
  | .jp _ => false
  | .jpCc _ _ => false
  | .jpHl => false
  | .jr _ => false
  | .jrCc _ _ => false
  | .call _ => false
  | .callCc _ _ => false
  | .ret => false
  | .retCc _ => false
  | .reti => false
  | .rst _ => false
  | .nop => false
  | .halt => false
  | .stop => false
  | .di => false
  | .ei => false
  | .prefixCb => true
  | .undefined _ => false

/-- The instruction may write `SP` (10_state.md R19). -/
def formWritesSp (f : Form) : Bool :=
  match f with
  | .ldPairImm rr _ => decide (rr = .sp)
  | .ldSpHl => true
  | .push _ => true
  | .pop _ => true
  | .addSpE _ => true
  | .incPair rr => decide (rr = .sp)
  | .decPair rr => decide (rr = .sp)
  | .call _ => true
  | .callCc _ _ => true
  | .ret => true
  | .retCc _ => true
  | .reti => true
  | .rst _ => true
  | _ => false

/-- The instruction may move `PC` beyond the bytes fetched for it (45_control.md, 46_system.md R282). -/
def formWritesPc (f : Form) : Bool :=
  match f with
  | .jp _ => true
  | .jpCc _ _ => true
  | .jpHl => true
  | .jr _ => true
  | .jrCc _ _ => true
  | .call _ => true
  | .callCc _ _ => true
  | .ret => true
  | .retCc _ => true
  | .reti => true
  | .rst _ => true
  | .stop => true
  | .prefixCb => true
  | _ => false

/-- The addresses an instruction stores to, with the expressions its meaning computes them by (20_memory.md R63). -/
def formStores (f : Form) (s : State) : List Word :=
  match f with
  | .ldMemReg _ => [s.pair .hl]
  | .ldMemImm _ => [s.pair .hl]
  | .ldPtrA p => [s.ptrAddr p]
  | .ldAbsA nn => [nn]
  | .ldPortA n => [zeroPage n]
  | .ldPortCA => [zeroPage s.regs.c]
  | .ldAbsSp nn => [nn, nn + 1]
  | .push _ => [s.sp - 2, s.sp - 2 + 1]
  | .incMem => [s.pair .hl]
  | .decMem => [s.pair .hl]
  | .rotMem _ => [s.pair .hl]
  | .resMem _ => [s.pair .hl]
  | .setMem _ => [s.pair .hl]
  | .call _ => [s.sp - 2, s.sp - 2 + 1]
  | .callCc cc _ => if s.holds cc then [s.sp - 2, s.sp - 2 + 1] else []
  | .rst _ => [s.sp - 2, s.sp - 2 + 1]
  | .prefixCb => [s.pair .hl]
  | _ => []

end Sys2Proof.Machine
end

