-- ==== Sys2Proof/Machine/Session.lean ====
section
/-! DEFINITION. The host port beside `Step()` (00_scope.md R2): `Reset()` and the terminal fault of a session. -/

namespace Sys2Proof.Machine

/-- `Reset()` (70_reset_and_hazards.md R330): the CPU state at its reset values, every memory array untouched. It is not
defined on a faulted session (60_exceptions.md R303, log 8). -/
def hostReset (s : State) : Result State :=
  match s.fault with
  | some _ => .refused .faultedSession
  | none =>
    .next { State.reset with
      mem := s.mem
      ioIf := s.ioIf
      romLength := s.romLength
      romTail := s.romTail
      portReads := s.portReads }

/-- The session after one `Step()` call: `fault <- (K, info)` where the step raised (60_exceptions.md R300). Of a faulted
session only `fault` means anything: the other fields are kept as they were and no statement reads them (log 6). -/
def afterStep (s : State) : State :=
  match step s with
  | .next t => t
  | .fault f => { s with fault := some f }
  | .refused _ => s

end Sys2Proof.Machine
end

