-- ==== Sys2Proof/WellFormed.lean ====
section
/-! DEFINITION. Which terms of `Instr` are instructions. The operands carry their width in their type, so no operand can
be ill-formed; what is checked is the row. -/

namespace Sys2Proof

/-- The prefix row: "0xCB is not an instruction by itself" (30_encoding.md R92). -/
def isPrefixRow (i : Instr) : Bool :=
  match i with
  | .prefix_CB => true
  | _ => false

/-- The eleven rows that "select no instruction" (30_encoding.md R93). -/
def isUndefinedRow (i : Instr) : Bool :=
  match i with
  | .undefined_D3 => true
  | .undefined_DB => true
  | .undefined_DD => true
  | .undefined_E3 => true
  | .undefined_E4 => true
  | .undefined_EB => true
  | .undefined_EC => true
  | .undefined_ED => true
  | .undefined_F4 => true
  | .undefined_FC => true
  | .undefined_FD => true
  | _ => false

/-- An instruction of the machine: one of the 500 rows that are neither the prefix nor undefined. -/
def WellFormed (i : Instr) : Bool := !isPrefixRow i && !isUndefinedRow i

end Sys2Proof
end

