-- ==== Sys2Proof/Safety.lean ====
section
/-! DEFINITION. What counts as a good state and a good outcome, in the terms the statements use. -/

namespace Sys2Proof.Machine

/-- The session has not faulted and the core is not Halted: the next step executes an instruction (30_encoding.md R80). -/
abbrev Running (s : State) : Prop := s.fault = none ∧ s.halted = false

/-- An access to the address goes through: it is not in a faulting region nor beyond the cartridge image. -/
abbrev Accessible (s : State) (addr : Word) : Prop :=
  placeOf s.romLength addr ≠ .unimplemented ∧ placeOf s.romLength addr ≠ .unallocated ∧
    placeOf s.romLength addr ≠ .beyondImage

/-- The byte a read of the address gives, where it is accessible (20_memory.md R50): the stored byte, or at a timer port
the free byte. -/
def readValue (addr : Word) (s : State) : Byte :=
  match storedByte addr s with
  | some v => v
  | none => Config.timerPortByte s.portReads

/-- The state after a read of the address: only the model's own count of free bytes moves, and only at a timer port. -/
def afterRead (addr : Word) (s : State) : State :=
  match placeOf s.romLength addr with
  | .timerPort => { s with portReads := s.portReads + 1 }
  | _ => s

/-- The state after a write to the address (20_memory.md R51). -/
def afterWrite (addr : Word) (v : Byte) (s : State) : State :=
  match placeOf s.romLength addr with
  | .cell k => { s with mem := s.mem.set k v }
  | .interruptFlag => { s with ioIf := v }
  | _ => s

/-- Both bytes of a two-byte access go through (20_memory.md R52, R53). -/
abbrev Accessible2 (s : State) (addr : Word) : Prop := Accessible s addr ∧ Accessible s (addr + 1)

/-- The word a two-byte read gives: the high byte first (20_memory.md R52). -/
def readValue2 (addr : Word) (s : State) : Word :=
  joinBytes (readValue addr s) (readValue (addr + 1) (afterRead addr s))

/-- The state after a two-byte read. -/
def afterRead2 (addr : Word) (s : State) : State := afterRead (addr + 1) (afterRead addr s)

/-- The state after a two-byte write: the high byte first (20_memory.md R53). -/
def afterWrite2 (addr : Word) (v : Word) (s : State) : State :=
  afterWrite (addr + 1) (loByte v) (afterWrite addr (hiByte v) s)

/-- The stop that an access to an address that is not accessible ends in (20_memory.md R41, R43, R46 to R49). -/
def accessStop {α : Type} (addr : Word) (dir : Access) (s : State) : Result α :=
  match placeOf s.romLength addr with
  | .unallocated => .fault (.unallocatedExternalRam addr dir)
  | .beyondImage => .refused (.beyondRomImage addr dir)
  | _ => .fault (.unimplementedRegion addr dir)

/-- The interrupt timers as they stand between steps: each 0 or 1, and not both armed (10_state.md R22, 60_exceptions.md
R308, decision D19). -/
abbrev TimersOk (s : State) : Prop :=
  s.diPending.toNat ≤ 1 ∧ s.eiPending.toNat ≤ 1 ∧ ¬ (s.diPending = 1 ∧ s.eiPending = 1)

/-- Memory is canonical and lists no ROM byte beyond the cartridge image (20_memory.md R43). -/
abbrev MemoryOk (s : State) : Prop :=
  s.mem.wf = true ∧ (∀ c ∈ s.mem, c.1 < 0x8000 → c.1 < s.romLength) ∧ s.romTail.length = s.romLength - 0x8000

/-- What holds between the steps of a session that has not faulted: the low nibble of `F` is zero (10_state.md R11), the
timers are in range, memory is canonical, `cycles` is a cost (R24). -/
abbrev Inv (s : State) : Prop :=
  s.regs.f &&& 0x0F = 0 ∧ TimersOk s ∧ MemoryOk s ∧ s.cycles.toNat ≤ 6 ∧ s.fault = none

end Sys2Proof.Machine
end

