-- ==== Sys2Proof/Certificates/Slice0/Obligations.lean ====
section
/-! DEFINITION. The statements about the model, for the provers. `exec i s` is the effect of `i` on a state whose `pc` is
already past the bytes fetched for it (10_state.md R17, 45_control.md R276). Opcode values and cycle costs are the
spec's, under its decisions D5 and D8; a statement that rests on another decision of the spec says so. -/

namespace Sys2Proof.Machine

/-! ## Field codes, as 30_encoding.md R84 to R88 print them -/

/-- R84. -/
def codeReg (r : Reg8) : Byte :=
  match r with
  | .b => 0
  | .c => 1
  | .d => 2
  | .e => 3
  | .h => 4
  | .l => 5
  | .a => 7

/-- R85. -/
def codePair (rr : Reg16) : Byte :=
  match rr with
  | .bc => 0
  | .de => 1
  | .hl => 2
  | .sp => 3

/-- R86. -/
def codeStk (q : RegStk) : Byte :=
  match q with
  | .bc => 0
  | .de => 1
  | .hl => 2
  | .af => 3

/-- R87. -/
def codeCond (cc : Cond) : Byte :=
  match cc with
  | .nz => 0
  | .z => 1
  | .nc => 2
  | .c => 3

/-- R88: the ALU operation index. -/
def codeAlu (op : AluOp) : Byte :=
  match op with
  | .add => 0
  | .adc => 1
  | .sub => 2
  | .sbc => 3
  | .and => 4
  | .xor => 5
  | .or => 6
  | .cp => 7

/-- R88: the rotate and shift index. -/
def codeRot (op : RotOp) : Byte :=
  match op with
  | .rlc => 0
  | .rrc => 1
  | .rl => 2
  | .rr => 3
  | .sla => 4
  | .sra => 5
  | .swap => 6
  | .srl => 7

/-- R88: the bit index and the `RST` vector index. -/
def codeIx (b : Ix8) : Byte :=
  match b with
  | .i0 => 0
  | .i1 => 1
  | .i2 => 2
  | .i3 => 3
  | .i4 => 4
  | .i5 => 5
  | .i6 => 6
  | .i7 => 7

/-- `A` and `F` after an ALU operation of 40_alu8.md sections 2 to 7 on an operand byte, as those rules write it. -/
def aluAsRuled (op : AluOp) (v : Byte) (s : State) : State :=
  match op with
  | .add => (s.setReg .a (add8 s.regs.a v false).res).setFlags (add8 s.regs.a v false).z (add8 s.regs.a v false).n
      (add8 s.regs.a v false).h (add8 s.regs.a v false).c
  | .adc => (s.setReg .a (add8 s.regs.a v s.flagC).res).setFlags (add8 s.regs.a v s.flagC).z (add8 s.regs.a v s.flagC).n
      (add8 s.regs.a v s.flagC).h (add8 s.regs.a v s.flagC).c
  | .sub => (s.setReg .a (sub8 s.regs.a v false).res).setFlags (sub8 s.regs.a v false).z (sub8 s.regs.a v false).n
      (sub8 s.regs.a v false).h (sub8 s.regs.a v false).c
  | .sbc => (s.setReg .a (sub8 s.regs.a v s.flagC).res).setFlags (sub8 s.regs.a v s.flagC).z (sub8 s.regs.a v s.flagC).n
      (sub8 s.regs.a v s.flagC).h (sub8 s.regs.a v s.flagC).c
  | .and => (s.setReg .a (s.regs.a &&& v)).setFlags (decide (s.regs.a &&& v = 0#8)) false false false
  | .xor => (s.setReg .a (s.regs.a ^^^ v)).setFlags (decide (s.regs.a ^^^ v = 0#8)) false false false
  | .or => (s.setReg .a (s.regs.a ||| v)).setFlags (decide (s.regs.a ||| v = 0#8)) false false false
  | .cp => s.setFlags (sub8 s.regs.a v false).z (sub8 s.regs.a v false).n (sub8 s.regs.a v false).h
      (sub8 s.regs.a v false).c

/-- The register that an instruction of the secondary table works on, or `none` for the byte at `HL` (R91). -/
def secondaryOperand (op2 : Byte) : Option Reg8 := r8 (fieldZ op2)

end Sys2Proof.Machine

open Sys2Proof Sys2Proof.Machine

/-! ## Encoding -/

/-- One word of each family, written out from its rule's Encoding line, decodes to the instruction it stands for
(40_alu8.md to 46_system.md; 16-bit immediates low byte first, 30_encoding.md R83, the spec's decision D6). -/
def Obligations.TableWordsDecodeToTheirRows : Prop :=
  decode [0x00] = .ok (.nop, []) ∧ decode [0x06, 0x42] = .ok (.ld_B_n 0x42, []) ∧
  decode [0xC3, 0x50, 0x01] = .ok (.jp_nn 0x0150, []) ∧ decode [0x21, 0x5B, 0x3A] = .ok (.ld_HL_nn 0x3A5B, []) ∧
  decode [0x88] = .ok (.adc_A_B, []) ∧ decode [0xFE, 0x3C] = .ok (.cp_n 0x3C, []) ∧
  decode [0x39] = .ok (.add_HL_SP, []) ∧ decode [0x1F] = .ok (.rra, []) ∧ decode [0x20, 0xFC] = .ok (.jr_NZ_e 0xFC, []) ∧
  decode [0x76] = .ok (.halt, []) ∧ decode [0xF1] = .ok (.pop_AF, []) ∧ decode [0x10, 0x3C] = .ok (.stop, [0x3C]) ∧
  decode [0x10, 0x00] = .ok (.stop, []) ∧
  decode [0xCB, 0x37] = .ok (.swap_A, []) ∧ decode [0xCB, 0x65] = .ok (.bit_4_L, []) ∧
  decode [0xCB, 0xD3] = .ok (.set_2_E, []) ∧ decode [0xD3] = .ok (.undefined_D3, []) ∧
  decode [0xCB] = .error .noSecondByte ∧ decode [0x06] = .error .noImmediate

/-- Decoding the encoding of any row but the prefix (which "is not an instruction by itself", 30_encoding.md R92) gives
the row with every operand, and leaves the bytes after it. `STOP` is encoded as 0x10 0x00, its form of length 2 (R81, R95);
that the encoder writes this form is the model's choice (log 13). -/
def Obligations.DecodeOfEncodeIsTheInstruction : Prop :=
  ∀ (i : Instr) (rest : List Byte), isPrefixRow i = false → decode (encode i ++ rest) = .ok (i, rest)

/-- Every byte string that decodes is the encoding of the instruction it decodes to, or it is `STOP` in its form of length
1, the byte 0x10 alone before anything but a zero byte (R81, R95): the field decoder (30_encoding.md R81, R84 to R91) and
the table's rows (R98) agree on every opcode value. That the encoder writes `STOP` in its form of length 2, and that 0x10
at the end of the string has length 1, are the model's choice (log 13). -/
def Obligations.EncodeOfDecodeIsTheBytes : Prop :=
  ∀ (bytes rest : List Byte) (i : Instr), decode bytes = .ok (i, rest) →
    encode i ++ rest = bytes ∨ (i = .stop ∧ bytes = 0x10 :: rest ∧ rest.head? ≠ some 0x00)

/-- The decoder rejects exactly the strings that end too early, and what it takes is as long as 30_encoding.md R95 says:
1, 2 or 3 bytes from the first byte alone, 2 for 0xCB; for `STOP` 2 before a zero byte and 1 otherwise. That 0x10 at the
end of the string has length 1 is the model's choice (log 13). -/
def Obligations.DecodeRejectsOnlyShortStrings : Prop :=
  (∀ (op : Byte) (tail : List Byte),
    (lengthOf op tail ≤ tail.length + 1 →
      ∃ i, decode (op :: tail) = .ok (i, tail.drop (lengthOf op tail - 1))) ∧
    (tail.length + 1 < lengthOf op tail → ∃ e, decode (op :: tail) = .error e)) ∧
  decode [] = .error .noOpcode ∧
  (∀ (op : Byte) (tail : List Byte), 1 ≤ lengthOf op tail ∧ lengthOf op tail ≤ 3) ∧
  (∀ (op : Byte) (tail tail' : List Byte), op ≠ 0x10 → lengthOf op tail = lengthOf op tail') ∧
  (∀ tail : List Byte, lengthOf 0xCB tail = 2 ∧ lengthOf 0x10 (0x00 :: tail) = 2) ∧
  (∀ (v : Byte) (tail : List Byte), v ≠ 0x00 → lengthOf 0x10 (v :: tail) = 1) ∧ lengthOf 0x10 [] = 1

/-- The eleven undefined opcode values, and no others, end the step in `UnknownOpcode` with the byte and the address it
was fetched from (46_system.md R286, 30_encoding.md R93). -/
def Obligations.UndefinedOpcodesRaiseUnknownOpcode : Prop :=
  (∀ (u : UndefOp) (s : State), exec (Form.undefined u).instr s = .fault (.unknownOpcode u.byte (s.pc - 1)) ∧
    encode (Form.undefined u).instr = [u.byte]) ∧
  (∀ (s s1 : State) (op : Byte), Running s → fetch8 s = .next (op, s1) →
    op ∈ [0xD3#8, 0xDB, 0xDD, 0xE3, 0xE4, 0xEB, 0xEC, 0xED, 0xF4, 0xFC, 0xFD] →
    step s = .fault (.unknownOpcode op s.pc)) ∧
  (∀ (s : State) (op : Byte) (addr : Word), step s = .fault (.unknownOpcode op addr) →
    addr = s.pc ∧ (∃ s1, fetch8 s = .next (op, s1)) ∧
    op ∈ [0xD3#8, 0xDB, 0xDD, 0xE3, 0xE4, 0xEB, 0xEC, 0xED, 0xF4, 0xFC, 0xFD])

/-! ## The step -/

/-- A step runs the instruction whose bytes it fetches at `PC`, on the state past them, and then ticks the timers; a fault
of the fetch is the step's; a Halted step changes nothing (30_encoding.md R80, the spec's decision D16). The byte after
`STOP` is not among the bytes fetched: its operation looks at it (46_system.md R282). -/
def Obligations.StepRunsTheFetchedInstruction : Prop :=
  (∀ (s s1 : State) (op : Byte) (tail : List Byte) (i : Instr), Running s →
    fetchBytes (fetchLength op) s = .next (op :: tail, s1) → decode (op :: tail) = .ok (i, []) →
    step s = andThen (exec i s1) fun t => .next (tickTimers t)) ∧
  (∀ (s : State) (f : Fault), Running s → fetch8 s = .fault f → step s = .fault f) ∧
  (∀ (s s1 : State) (op : Byte) (f : Fault), Running s → fetch8 s = .next (op, s1) →
    fetchBytes (fetchLength op - 1) s1 = .fault f → step s = .fault f) ∧
  (∀ s : State, s.fault = none → s.halted = true → step s = .next s)

/-- If the bytes of an instruction are stored at `PC`, the step runs that instruction on the state with `PC` past them
(10_state.md R17, R18; 20_memory.md R61). `STOP` runs with `PC` past its opcode byte, whatever byte follows: its operation
looks at that byte and moves `PC` past a zero (46_system.md R282). -/
def Obligations.StepRunsTheInstructionStoredAtPc : Prop :=
  (∀ (s : State) (i : Instr), Running s → WellFormed i = true → i ≠ .stop →
    (∀ k, k < (encode i).length → storedByte (s.pc + BitVec.ofNat 16 k) s = some ((encode i).getD k 0)) →
    step s = andThen (exec i { s with pc := s.pc + BitVec.ofNat 16 (encode i).length }) fun t => .next (tickTimers t)) ∧
  (∀ s : State, Running s → storedByte s.pc s = some 0x10 →
    step s = andThen (exec .stop { s with pc := s.pc + 1 }) fun t => .next (tickTimers t))

/-- A fault ends the session: it is recorded, and no later step or reset is taken (60_exceptions.md R300, R303; the spec's
decision D14). -/
def Obligations.AFaultEndsTheSession : Prop :=
  (∀ (s : State) (f : Fault), step s = .fault f →
    (afterStep s).fault = some f ∧ step (afterStep s) = .refused .faultedSession ∧
    hostReset (afterStep s) = .refused .faultedSession) ∧
  (∀ (s : State) (f : Fault), s.fault = some f → step s = .refused .faultedSession)

/-- Every step keeps the invariant of a session: the low nibble of `F` zero (10_state.md R11), the timers in range and not
both armed (R22, 60_exceptions.md R308), memory canonical and within the cartridge image (20_memory.md R43), `cycles` a
cost (10_state.md R24), no fault recorded (R23). -/
def Obligations.EveryStepKeepsTheInvariant : Prop :=
  ∀ s t : State, Inv s → step s = .next t → Inv t

/-- The invariant holds at `State.reset`. -/
def Obligations.TheInvariantHoldsAtReset : Prop := Inv State.reset

/-- The power-on values (10_state.md R28), and `Reset()` on a session that has not faulted, which restores them and leaves
every memory array as it is (70_reset_and_hazards.md R330). The values of `halted` and of the timers, and that memory is
kept, are the spec's decision D13. -/
def Obligations.ResetRestoresPowerOnState : Prop :=
  (State.reset.pc = 0x0100 ∧ State.reset.sp = 0xFFFE ∧ (∀ r : Reg8, State.reset.reg r = 0) ∧ State.reset.regs.f = 0 ∧
    State.reset.ime = true ∧ State.reset.cycles = 0 ∧ State.reset.halted = false ∧ State.reset.diPending = 0 ∧
    State.reset.eiPending = 0 ∧ State.reset.fault = none) ∧
  (∀ s : State, s.fault = none → ∃ t, hostReset s = .next t ∧
    t.pc = 0x0100 ∧ t.sp = 0xFFFE ∧ (∀ r : Reg8, t.reg r = 0) ∧ t.regs.f = 0 ∧ t.ime = true ∧ t.cycles = 0 ∧
    t.halted = false ∧ t.diPending = 0 ∧ t.eiPending = 0 ∧ t.fault = none ∧
    (∀ a : Word, storedByte a t = storedByte a s) ∧ t.romLength = s.romLength ∧ t.romTail = s.romTail)

/-- A session built from a cartridge image and initial RAM bytes reads them back where the decode puts them, starts at the
power-on values and meets the invariant (20_memory.md R42, 70_reset_and_hazards.md R331, R333). That a RAM byte not given
reads 0 is the model's choice (log 1) and is not stated. -/
def Obligations.ConstructionPlacesImageAndRam : Prop :=
  ∀ (image vram wram hram : List Byte) (ioIf : Byte),
    Inv (State.construct image vram wram hram ioIf) ∧
    (State.construct image vram wram hram ioIf).pc = 0x0100 ∧
    (State.construct image vram wram hram ioIf).halted = false ∧
    (∀ k, k < image.length → k < 0x8000 →
      storedByte (BitVec.ofNat 16 k) (State.construct image vram wram hram ioIf) = some (image.getD k 0)) ∧
    (∀ k, k < vram.length → k < 0x2000 →
      storedByte (BitVec.ofNat 16 (0x8000 + k)) (State.construct image vram wram hram ioIf) = some (vram.getD k 0)) ∧
    (∀ k, k < wram.length → k < 0x2000 →
      storedByte (BitVec.ofNat 16 (0xC000 + k)) (State.construct image vram wram hram ioIf) = some (wram.getD k 0)) ∧
    (∀ k, k < hram.length → k < 0x80 →
      storedByte (BitVec.ofNat 16 (0xFF80 + k)) (State.construct image vram wram hram ioIf) = some (hram.getD k 0)) ∧
    storedByte 0xFF0F (State.construct image vram wram hram ioIf) = some ioIf

/-! ## Registers and memory -/

/-- The pair views: a read concatenates the two bytes, a write splits its value, `AF` masks the low nibble of `F`, a view
owns no state, and a write of one byte changes no other (10_state.md R12, R13). -/
def Obligations.PairViewsConcatenateAndSplit : Prop :=
  ∀ (s : State) (v : Word) (x : Byte),
    ((s.pair .bc).toNat = s.regs.b.toNat * 256 + s.regs.c.toNat ∧
      (s.pair .de).toNat = s.regs.d.toNat * 256 + s.regs.e.toNat ∧
      (s.pair .hl).toNat = s.regs.h.toNat * 256 + s.regs.l.toNat ∧
      (s.stkPair .af).toNat = s.regs.a.toNat * 256 + s.regs.f.toNat) ∧
    (∀ rr : Reg16, (s.setPair rr v).pair rr = v) ∧
    ((s.setPair .bc v).regs.b.toNat = v.toNat / 256 ∧ (s.setPair .bc v).regs.c.toNat = v.toNat % 256 ∧
      (s.setPair .de v).regs.d.toNat = v.toNat / 256 ∧ (s.setPair .de v).regs.e.toNat = v.toNat % 256 ∧
      (s.setPair .hl v).regs.h.toNat = v.toNat / 256 ∧ (s.setPair .hl v).regs.l.toNat = v.toNat % 256) ∧
    ((s.setStkPair .af v).regs.a.toNat = v.toNat / 256 ∧ (s.setStkPair .af v).regs.f = loByte v &&& 0xF0 ∧
      (s.setStkPair .af v).stkPair .af = v &&& 0xFFF0) ∧
    ((s.setReg .b x).pair .bc = joinBytes x s.regs.c ∧ (s.setReg .c x).pair .bc = joinBytes s.regs.b x ∧
      (s.setReg .d x).pair .de = joinBytes x s.regs.e ∧ (s.setReg .e x).pair .de = joinBytes s.regs.d x ∧
      (s.setReg .h x).pair .hl = joinBytes x s.regs.l ∧ (s.setReg .l x).pair .hl = joinBytes s.regs.h x) ∧
    (∀ r y : Reg8, y ≠ r → (s.setReg r x).reg y = s.reg y ∧ (s.setReg r x).regs.f = s.regs.f)

/-- What a byte read does at every address (20_memory.md R41, R43 to R49, R54): the regions and the faults are the
spec's (its decisions D2, D9, D10, D11 among them), and a timer port gives a free byte (log 5). -/
def Obligations.ReadsFollowTheAddressDecode : Prop :=
  ∀ (s : State) (a : Word),
    (a.toNat < 0x8000 → a.toNat < s.romLength → memRead a s = .next (s.mem.get a.toNat, s)) ∧
    (a.toNat < 0x8000 → s.romLength ≤ a.toNat → memRead a s = .refused (.beyondRomImage a .read)) ∧
    (0x8000 ≤ a.toNat → a.toNat < 0xA000 → memRead a s = .next (s.mem.get a.toNat, s)) ∧
    (0xA000 ≤ a.toNat → a.toNat < 0xC000 → memRead a s = .fault (.unallocatedExternalRam a .read)) ∧
    (0xC000 ≤ a.toNat → a.toNat < 0xE000 → memRead a s = .next (s.mem.get a.toNat, s)) ∧
    (0xE000 ≤ a.toNat → a.toNat < 0xFE00 → memRead a s = .next (s.mem.get (a.toNat - 0x2000), s)) ∧
    (0xFE00 ≤ a.toNat → a.toNat < 0xFF00 → memRead a s = .fault (.unimplementedRegion a .read)) ∧
    (a = 0xFF05 ∨ a = 0xFF06 ∨ a = 0xFF07 →
      ∃ v, memRead a s = .next (v, { s with portReads := s.portReads + 1 })) ∧
    (a = 0xFF0F → memRead a s = .next (s.ioIf, s)) ∧
    (0xFF00 ≤ a.toNat → a.toNat < 0xFF80 → a ≠ 0xFF05 → a ≠ 0xFF06 → a ≠ 0xFF07 → a ≠ 0xFF0F →
      memRead a s = .fault (.unimplementedRegion a .read)) ∧
    (0xFF80 ≤ a.toNat → memRead a s = .next (s.mem.get a.toNat, s))

/-- What a byte write does at every address (20_memory.md R41, R43 to R49, R54; the spec's decisions D2, D9, D10, D11
among them). -/
def Obligations.WritesFollowTheAddressDecode : Prop :=
  ∀ (s : State) (a : Word) (v : Byte),
    (a.toNat < 0x8000 → a.toNat < s.romLength → memWrite a v s = .next { s with mem := s.mem.set a.toNat v }) ∧
    (a.toNat < 0x8000 → s.romLength ≤ a.toNat → memWrite a v s = .refused (.beyondRomImage a .write)) ∧
    (0x8000 ≤ a.toNat → a.toNat < 0xA000 → memWrite a v s = .next { s with mem := s.mem.set a.toNat v }) ∧
    (0xA000 ≤ a.toNat → a.toNat < 0xC000 → memWrite a v s = .fault (.unallocatedExternalRam a .write)) ∧
    (0xC000 ≤ a.toNat → a.toNat < 0xE000 → memWrite a v s = .next { s with mem := s.mem.set a.toNat v }) ∧
    (0xE000 ≤ a.toNat → a.toNat < 0xFE00 → memWrite a v s = .next { s with mem := s.mem.set (a.toNat - 0x2000) v }) ∧
    (0xFE00 ≤ a.toNat → a.toNat < 0xFF00 → memWrite a v s = .fault (.unimplementedRegion a .write)) ∧
    (a = 0xFF05 ∨ a = 0xFF06 ∨ a = 0xFF07 → memWrite a v s = .next s) ∧
    (a = 0xFF0F → memWrite a v s = .next { s with ioIf := v }) ∧
    (0xFF00 ≤ a.toNat → a.toNat < 0xFF80 → a ≠ 0xFF05 → a ≠ 0xFF06 → a ≠ 0xFF07 → a ≠ 0xFF0F →
      memWrite a v s = .fault (.unimplementedRegion a .write)) ∧
    (0xFF80 ≤ a.toNat → memWrite a v s = .next { s with mem := s.mem.set a.toNat v })

/-- A write to an address that stores a byte goes through, a later read or fetch of it gives the byte, and every address
that reaches another byte reads as before, as does every register (20_memory.md R58; R51 and R61 for the same addresses).
The addresses that store a byte are those of the ROM, Video RAM, Working RAM, echo and high RAM rows, and 0xFF0F. -/
def Obligations.AWriteIsReadBackAndChangesOneByte : Prop :=
  (∀ (s : State) (a : Word) (v : Byte), MemoryOk s → storedByte a s ≠ none →
    ∃ t, memWrite a v s = .next t ∧ memRead a t = .next (v, t) ∧ fetch8 { t with pc := a } = .next (v, { t with pc := a + 1 }) ∧
      (∀ b : Word, placeOf s.romLength b ≠ placeOf s.romLength a → storedByte b t = storedByte b s) ∧
      { t with mem := s.mem, ioIf := s.ioIf } = s) ∧
  (∀ (s : State) (a : Word), storedByte a s ≠ none ↔
    ((a.toNat < 0x8000 ∧ a.toNat < s.romLength) ∨ (0x8000 ≤ a.toNat ∧ a.toNat < 0xA000) ∨
      (0xC000 ≤ a.toNat ∧ a.toNat < 0xFE00) ∨ a = 0xFF0F ∨ 0xFF80 ≤ a.toNat))

/-- The echo: an address of 0xC000 to 0xDDFF and the one 0x2000 above it reach the same byte, for reads and for writes, and
no other pair of addresses shares a byte (20_memory.md R45). -/
def Obligations.TheEchoNamesTheSameBytes : Prop :=
  (∀ (n : Nat) (a : Word), 0xC000 ≤ a.toNat → a.toNat < 0xDE00 → placeOf n (a + 0x2000) = placeOf n a) ∧
  (∀ (s : State) (a : Word) (v : Byte), MemoryOk s → 0xC000 ≤ a.toNat → a.toNat < 0xDE00 →
    (∃ t, memWrite (a + 0x2000) v s = .next t ∧ memRead a t = .next (v, t)) ∧
    (∃ t, memWrite a v s = .next t ∧ memRead (a + 0x2000) t = .next (v, t))) ∧
  (∀ (n k : Nat) (a b : Word), placeOf n a = .cell k → placeOf n b = .cell k →
    a = b ∨ (0xC000 ≤ a.toNat ∧ a.toNat < 0xDE00 ∧ b = a + 0x2000) ∨
      (0xC000 ≤ b.toNat ∧ b.toNat < 0xDE00 ∧ a = b + 0x2000))

/-- Two-byte accesses: the high byte at the address, the low byte at the next (mod 2^16), the first access made first; a
stored word is big-endian and is read back (20_memory.md R52, R53, R55). -/
def Obligations.WordsAreStoredHighByteFirst : Prop :=
  (∀ (s : State) (a : Word), Accessible2 s a → memRead2 a s = .next (readValue2 a s, afterRead2 a s)) ∧
  (∀ (s : State) (a v : Word), Accessible2 s a → memWrite2 a v s = .next (afterWrite2 a v s)) ∧
  (∀ (s : State) (a v : Word), ¬ Accessible s a →
    memRead2 a s = accessStop a .read s ∧
    memWrite2 a v s = accessStop a .write s) ∧
  (∀ (s : State) (a v : Word), Accessible s a → ¬ Accessible s (a + 1) →
    memRead2 a s = accessStop (a + 1) .read s ∧
    memWrite2 a v s = accessStop (a + 1) .write s) ∧
  (∀ (s : State) (a v : Word), MemoryOk s → storedByte a s ≠ none → storedByte (a + 1) s ≠ none →
    ∃ t, memWrite2 a v s = .next t ∧ memRead2 a t = .next (v, t) ∧
      storedByte a t = some (hiByte v) ∧ storedByte (a + 1) t = some (loByte v))

/-! ## The ALU functions -/

/-- `Add8` and `Sub8` by integer arithmetic (40_alu8.md R110, R111, R148). -/
def Obligations.Add8AndSub8ByIntegers : Prop :=
  ∀ (x y : Byte) (cin : Bool),
    ((add8 x y cin).res.toNat = (x.toNat + y.toNat + cin.toNat) % 256 ∧
      ((add8 x y cin).z = true ↔ (add8 x y cin).res = 0) ∧ (add8 x y cin).n = false ∧
      ((add8 x y cin).h = true ↔ x.toNat % 16 + y.toNat % 16 + cin.toNat > 0x0F) ∧
      ((add8 x y cin).c = true ↔ x.toNat + y.toNat + cin.toNat > 0xFF)) ∧
    (((sub8 x y cin).res.toNat : Int) = ((x.toNat : Int) - y.toNat - cin.toNat) % 256 ∧
      ((sub8 x y cin).z = true ↔ (sub8 x y cin).res = 0) ∧ (sub8 x y cin).n = true ∧
      ((sub8 x y cin).h = true ↔ x.toNat % 16 < y.toNat % 16 + cin.toNat) ∧
      ((sub8 x y cin).c = true ↔ x.toNat < y.toNat + cin.toNat))

/-- `Add16` by integer arithmetic (41_alu16.md R160, R165); its Zero and HalfCarry are the spec's decision D1. -/
def Obligations.Add16ByIntegers : Prop :=
  ∀ x y : Word,
    (add16 x y).res.toNat = (x.toNat + y.toNat) % 65536 ∧
    ((add16 x y).z = true ↔ (add16 x y).res = 0) ∧ (add16 x y).n = false ∧
    ((add16 x y).h = true ↔ x.toNat % 0x1000 + y.toNat % 0x1000 > 0x0FFF) ∧
    ((add16 x y).c = true ↔ x.toNat + y.toNat > 0xFFFF)

/-- The eight one-byte transforms by integer arithmetic, with their carry-out (42_rotate_shift_bit.md R174). -/
def Obligations.OneByteTransformsByIntegers : Prop :=
  ∀ (x : Byte) (cin : Bool),
    ((rotate .rlc x cin).res.toNat = x.toNat * 2 % 256 + x.toNat / 128 ∧ ((rotate .rlc x cin).c = true ↔ x.toNat / 128 = 1)) ∧
    ((rotate .rrc x cin).res.toNat = x.toNat / 2 + x.toNat % 2 * 128 ∧ ((rotate .rrc x cin).c = true ↔ x.toNat % 2 = 1)) ∧
    ((rotate .rl x cin).res.toNat = x.toNat * 2 % 256 + cin.toNat ∧ ((rotate .rl x cin).c = true ↔ x.toNat / 128 = 1)) ∧
    ((rotate .rr x cin).res.toNat = x.toNat / 2 + cin.toNat * 128 ∧ ((rotate .rr x cin).c = true ↔ x.toNat % 2 = 1)) ∧
    ((rotate .sla x cin).res.toNat = x.toNat * 2 % 256 ∧ ((rotate .sla x cin).c = true ↔ x.toNat / 128 = 1)) ∧
    ((rotate .sra x cin).res.toNat = x.toNat / 2 + x.toNat / 128 * 128 ∧
      ((rotate .sra x cin).c = true ↔ x.toNat % 2 = 1)) ∧
    ((rotate .swap x cin).res.toNat = x.toNat % 16 * 16 + x.toNat / 16 ∧ (rotate .swap x cin).c = false) ∧
    ((rotate .srl x cin).res.toNat = x.toNat / 2 ∧ ((rotate .srl x cin).c = true ↔ x.toNat % 2 = 1))

/-! ## 8-bit loads -/

/-- `LD r,r'` and `LD r,n` complete in every state (43_load8.md R210, R211). -/
def Obligations.RegisterLoads : Prop :=
  (∀ (dst src : Reg8) (s : State),
    encode (Form.ldRegReg dst src).instr = [0x40 + codeReg dst * 8 + codeReg src] ∧
    exec (Form.ldRegReg dst src).instr s = .next { s.setReg dst (s.reg src) with cycles := 1 }) ∧
  (∀ (dst : Reg8) (n : Byte) (s : State),
    encode (Form.ldRegImm dst n).instr = [0x06 + codeReg dst * 8, n] ∧
    exec (Form.ldRegImm dst n).instr s = .next { s.setReg dst n with cycles := 2 })

/-- `LD r,(HL)`, `LD (HL),r`, `LD (HL),n` complete where `HL` is accessible, and stop with the access's own stop where it
is not (43_load8.md R212, R213, R214). -/
def Obligations.LoadsAndStoresThroughHl : Prop :=
  (∀ (dst : Reg8) (s : State),
    encode (Form.ldRegMem dst).instr = [0x46 + codeReg dst * 8] ∧
    (Accessible s (s.pair .hl) → exec (Form.ldRegMem dst).instr s =
      .next { (afterRead (s.pair .hl) s).setReg dst (readValue (s.pair .hl) s) with cycles := 2 }) ∧
    (¬ Accessible s (s.pair .hl) → exec (Form.ldRegMem dst).instr s = accessStop (s.pair .hl) .read s)) ∧
  (∀ (src : Reg8) (s : State),
    encode (Form.ldMemReg src).instr = [0x70 + codeReg src] ∧
    (Accessible s (s.pair .hl) → exec (Form.ldMemReg src).instr s =
      .next { afterWrite (s.pair .hl) (s.reg src) s with cycles := 2 }) ∧
    (¬ Accessible s (s.pair .hl) → exec (Form.ldMemReg src).instr s = accessStop (s.pair .hl) .write s)) ∧
  (∀ (n : Byte) (s : State),
    encode (Form.ldMemImm n).instr = [0x36, n] ∧
    (Accessible s (s.pair .hl) → exec (Form.ldMemImm n).instr s =
      .next { afterWrite (s.pair .hl) n s with cycles := 3 }) ∧
    (¬ Accessible s (s.pair .hl) → exec (Form.ldMemImm n).instr s = accessStop (s.pair .hl) .write s))

/-- The accumulator loads from `(BC)`, `(DE)`, `(nn)`, `0xFF00+n`, `0xFF00+C` (43_load8.md R215, R216, R219, R221, R223). -/
def Obligations.AccumulatorLoads : Prop :=
  ∀ (s : State) (nn : Word) (n : Byte),
    ∀ row ∈ ([(.ld_A_at_BC, s.pair .bc, 2, [0x0A]), (.ld_A_at_DE, s.pair .de, 2, [0x1A]),
        (.ld_A_at_nn nn, nn, 4, [0xFA, loByte nn, hiByte nn]), (.ldh_A_at_n n, 0xFF00 + zext16 n, 3, [0xF0, n]),
        (.ld_A_at_C, 0xFF00 + zext16 s.regs.c, 2, [0xF2])] : List (Instr × Word × Byte × List Byte)),
      encode row.1 = row.2.2.2 ∧
      (Accessible s row.2.1 → exec row.1 s =
        .next { (afterRead row.2.1 s).setReg .a (readValue row.2.1 s) with cycles := row.2.2.1 }) ∧
      (¬ Accessible s row.2.1 → exec row.1 s = accessStop row.2.1 .read s)

/-- The accumulator stores to `(BC)`, `(DE)`, `(nn)`, `0xFF00+n`, `0xFF00+C` (43_load8.md R217, R218, R220, R222, R224). -/
def Obligations.AccumulatorStores : Prop :=
  ∀ (s : State) (nn : Word) (n : Byte),
    ∀ row ∈ ([(.ld_at_BC_A, s.pair .bc, 2, [0x02]), (.ld_at_DE_A, s.pair .de, 2, [0x12]),
        (.ld_at_nn_A nn, nn, 4, [0xEA, loByte nn, hiByte nn]), (.ldh_at_n_A n, 0xFF00 + zext16 n, 3, [0xE0, n]),
        (.ld_at_C_A, 0xFF00 + zext16 s.regs.c, 2, [0xE2])] : List (Instr × Word × Byte × List Byte)),
      encode row.1 = row.2.2.2 ∧
      (Accessible s row.2.1 → exec row.1 s = .next { afterWrite row.2.1 s.regs.a s with cycles := row.2.2.1 }) ∧
      (¬ Accessible s row.2.1 → exec row.1 s = accessStop row.2.1 .write s)

/-- `LD (HL+),A`, `LD A,(HL+)`, `LD (HL-),A`, `LD A,(HL-)`: the access at the old `HL`, then `HL` moves by one, mod 2^16
(43_load8.md R225 to R228). -/
def Obligations.PostIncrementAndDecrementLoads : Prop :=
  ∀ s : State,
    (encode .ld_at_HLplus_A = [0x22] ∧ encode .ld_A_at_HLplus = [0x2A] ∧ encode .ld_at_HLminus_A = [0x32] ∧
      encode .ld_A_at_HLminus = [0x3A]) ∧
    (Accessible s (s.pair .hl) →
      exec .ld_at_HLplus_A s =
        .next { (afterWrite (s.pair .hl) s.regs.a s).setPair .hl (s.pair .hl + 1) with cycles := 2 } ∧
      exec .ld_A_at_HLplus s =
        .next { ((afterRead (s.pair .hl) s).setReg .a (readValue (s.pair .hl) s)).setPair .hl (s.pair .hl + 1) with
          cycles := 2 } ∧
      exec .ld_at_HLminus_A s =
        .next { (afterWrite (s.pair .hl) s.regs.a s).setPair .hl (s.pair .hl - 1) with cycles := 2 } ∧
      exec .ld_A_at_HLminus s =
        .next { ((afterRead (s.pair .hl) s).setReg .a (readValue (s.pair .hl) s)).setPair .hl (s.pair .hl - 1) with
          cycles := 2 }) ∧
    (¬ Accessible s (s.pair .hl) →
      exec .ld_at_HLplus_A s = accessStop (s.pair .hl) .write s ∧ exec .ld_A_at_HLplus s = accessStop (s.pair .hl) .read s ∧
      exec .ld_at_HLminus_A s = accessStop (s.pair .hl) .write s ∧
      exec .ld_A_at_HLminus s = accessStop (s.pair .hl) .read s)

/-! ## 16-bit loads and the stack -/

/-- `LD rr,nn`, `LD SP,HL`, and `LD (nn),SP`, which stores the high byte of `SP` at `nn` (44_load16_stack.md R240, R241,
R242). -/
def Obligations.SixteenBitLoads : Prop :=
  (∀ (rr : Reg16) (nn : Word) (s : State),
    encode (Form.ldPairImm rr nn).instr = [0x01 + codePair rr * 16, loByte nn, hiByte nn] ∧
    exec (Form.ldPairImm rr nn).instr s = .next { s.setPair rr nn with cycles := 3 }) ∧
  (∀ s : State, encode .ld_SP_HL = [0xF9] ∧ exec .ld_SP_HL s = .next { s with sp := s.pair .hl, cycles := 2 }) ∧
  (∀ (nn : Word) (s : State),
    encode (.ld_at_nn_SP nn) = [0x08, loByte nn, hiByte nn] ∧
    (Accessible2 s nn → exec (.ld_at_nn_SP nn) s =
      .next { afterWrite (nn + 1) (loByte s.sp) (afterWrite nn (hiByte s.sp) s) with cycles := 5 }) ∧
    (¬ Accessible s nn → exec (.ld_at_nn_SP nn) s = accessStop nn .write s) ∧
    (Accessible s nn → ¬ Accessible s (nn + 1) → exec (.ld_at_nn_SP nn) s = accessStop (nn + 1) .write s))

/-- `ADD SP,e` and `LD HL,SP+e` add the sign-extended offset with `Add16` and its flags (41_alu16.md R162,
44_load16_stack.md R245); the flags are the spec's decisions D1 and D20. -/
def Obligations.StackPointerOffsets : Prop :=
  ∀ (e : Byte) (s : State),
    encode (.add_SP_e e) = [0xE8, e] ∧ encode (.ld_HL_SPpluse e) = [0xF8, e] ∧
    exec (.add_SP_e e) s =
      .next { s.setFlags (add16 s.sp (sext16 e)).z false (add16 s.sp (sext16 e)).h (add16 s.sp (sext16 e)).c with
        sp := (add16 s.sp (sext16 e)).res, cycles := 4 } ∧
    exec (.ld_HL_SPpluse e) s =
      .next { (s.setPair .hl (add16 s.sp (sext16 e)).res).setFlags (add16 s.sp (sext16 e)).z false
        (add16 s.sp (sext16 e)).h (add16 s.sp (sext16 e)).c with cycles := 3 } ∧
    ((sext16 e).toNat = if e.toNat < 128 then e.toNat else 0xFF00 + e.toNat)

/-- `PUSH` decrements `SP` by 2 and stores the high byte there; `POP` reads the high byte first and increments `SP` by 2,
and `POP AF` masks the flag byte (44_load16_stack.md R246 to R249; the stack discipline is the spec's decision D3). -/
def Obligations.PushAndPop : Prop :=
  (∀ (q : RegStk) (s : State),
    encode (Form.push q).instr = [0xC5 + codeStk q * 16] ∧
    (Accessible2 s (s.sp - 2) → exec (Form.push q).instr s =
      .next { afterWrite2 (s.sp - 2) (s.stkPair q) s with sp := s.sp - 2, cycles := 4 }) ∧
    (¬ Accessible s (s.sp - 2) → exec (Form.push q).instr s = accessStop (s.sp - 2) .write s) ∧
    (Accessible s (s.sp - 2) → ¬ Accessible s (s.sp - 2 + 1) →
      exec (Form.push q).instr s = accessStop (s.sp - 2 + 1) .write s)) ∧
  (∀ (q : RegStk) (s : State),
    encode (Form.pop q).instr = [0xC1 + codeStk q * 16] ∧
    (Accessible2 s s.sp → exec (Form.pop q).instr s =
      .next { ({ afterRead2 s.sp s with sp := s.sp + 2 } : State).setStkPair q (readValue2 s.sp s) with cycles := 3 }) ∧
    (¬ Accessible s s.sp → exec (Form.pop q).instr s = accessStop s.sp .read s) ∧
    (Accessible s s.sp → ¬ Accessible s (s.sp + 1) →
      exec (Form.pop q).instr s = accessStop (s.sp + 1) .read s))

/-! ## 8-bit arithmetic and logic -/

/-- The ALU group on a register completes in every state (40_alu8.md R113, R116, R119, R122, R125, R128, R131, R134). -/
def Obligations.AluOnARegister : Prop :=
  ∀ (op : AluOp) (r : Reg8) (s : State),
    encode (Form.aluReg op r).instr = [0x80 + codeAlu op * 8 + codeReg r] ∧
    exec (Form.aluReg op r).instr s = .next { aluAsRuled op (s.reg r) s with cycles := 1 }

/-- The ALU group on the byte at `HL` (40_alu8.md R114, R117, R120, R123, R126, R129, R132, R135). -/
def Obligations.AluOnTheByteAtHl : Prop :=
  ∀ (op : AluOp) (s : State),
    encode (Form.aluMem op).instr = [0x86 + codeAlu op * 8] ∧
    (Accessible s (s.pair .hl) → exec (Form.aluMem op).instr s =
      .next { aluAsRuled op (readValue (s.pair .hl) s) (afterRead (s.pair .hl) s) with cycles := 2 }) ∧
    (¬ Accessible s (s.pair .hl) → exec (Form.aluMem op).instr s = accessStop (s.pair .hl) .read s)

/-- The ALU group on an immediate completes in every state (40_alu8.md R115, R118, R121, R124, R127, R130, R133, R136). -/
def Obligations.AluOnAnImmediate : Prop :=
  ∀ (op : AluOp) (n : Byte) (s : State),
    encode (Form.aluImm op n).instr = [0xC6 + codeAlu op * 8, n] ∧
    exec (Form.aluImm op n).instr s = .next { aluAsRuled op n s with cycles := 2 }

/-- `INC` and `DEC` of a byte, in a register and at `HL`: Zero by the result, HalfCarry by the low nibble, Carry kept
(40_alu8.md R140 to R143; HalfCarry and Carry are the spec's decision D7). -/
def Obligations.IncrementAndDecrementOfAByte : Prop :=
  (∀ (r : Reg8) (s : State),
    encode (Form.incReg r).instr = [0x04 + codeReg r * 8] ∧ encode (Form.decReg r).instr = [0x05 + codeReg r * 8] ∧
    exec (Form.incReg r).instr s = .next { (s.setReg r (s.reg r + 1)).setFlags (decide (s.reg r + 1 = 0#8)) false
      (decide (s.reg r &&& 0x0F = 0x0F#8)) s.flagC with cycles := 1 } ∧
    exec (Form.decReg r).instr s = .next { (s.setReg r (s.reg r - 1)).setFlags (decide (s.reg r - 1 = 0#8)) true
      (decide (s.reg r &&& 0x0F = 0#8)) s.flagC with cycles := 1 }) ∧
  (∀ s : State,
    encode .inc_at_HL = [0x34] ∧ encode .dec_at_HL = [0x35] ∧
    (Accessible s (s.pair .hl) →
      exec .inc_at_HL s = .next { (afterWrite (s.pair .hl) (readValue (s.pair .hl) s + 1)
        (afterRead (s.pair .hl) s)).setFlags (decide (readValue (s.pair .hl) s + 1 = 0#8)) false
        (decide (readValue (s.pair .hl) s &&& 0x0F = 0x0F#8)) s.flagC with cycles := 3 } ∧
      exec .dec_at_HL s = .next { (afterWrite (s.pair .hl) (readValue (s.pair .hl) s - 1)
        (afterRead (s.pair .hl) s)).setFlags (decide (readValue (s.pair .hl) s - 1 = 0#8)) true
        (decide (readValue (s.pair .hl) s &&& 0x0F = 0#8)) s.flagC with cycles := 3 }) ∧
    (¬ Accessible s (s.pair .hl) →
      exec .inc_at_HL s = accessStop (s.pair .hl) .read s ∧ exec .dec_at_HL s = accessStop (s.pair .hl) .read s))

/-- `DAA`, `CPL`, `SCF`, `CCF` (40_alu8.md R144 to R147; their whole semantics is the spec's decision D7). -/
def Obligations.DecimalAdjustComplementAndCarryFlag : Prop :=
  ∀ s : State,
    (encode .daa = [0x27] ∧ encode .cpl = [0x2F] ∧ encode .scf = [0x37] ∧ encode .ccf = [0x3F]) ∧
    (s.flagN = false → ∃ (adj a : Byte) (c : Bool),
      adj.toNat = (if s.flagH = true ∨ s.regs.a.toNat % 16 > 0x09 then 0x06 else 0) +
        (if s.flagC = true ∨ s.regs.a.toNat > 0x99 then 0x60 else 0) ∧
      a.toNat = (s.regs.a.toNat + adj.toNat) % 256 ∧ (c = true ↔ s.flagC = true ∨ s.regs.a.toNat > 0x99) ∧
      exec .daa s = .next { (s.setReg .a a).setFlags (decide (a = 0#8)) false false c with cycles := 1 }) ∧
    (s.flagN = true → ∃ (adj a : Byte),
      adj.toNat = (if s.flagH = true then 0x06 else 0) + (if s.flagC = true then 0x60 else 0) ∧
      a.toNat = (s.regs.a.toNat + 256 - adj.toNat) % 256 ∧
      exec .daa s = .next { (s.setReg .a a).setFlags (decide (a = 0#8)) true false s.flagC with cycles := 1 }) ∧
    exec .cpl s = .next { (s.setReg .a (s.regs.a ^^^ 0xFF)).setFlags s.flagZ true true s.flagC with cycles := 1 } ∧
    exec .scf s = .next { s.setFlags s.flagZ false false true with cycles := 1 } ∧
    exec .ccf s = .next { s.setFlags s.flagZ false false (!s.flagC) with cycles := 1 }

/-! ## 16-bit arithmetic -/

/-- `ADD HL,rr` (41_alu16.md R161); Zero and HalfCarry are the spec's decision D1. -/
def Obligations.AddPairToHl : Prop :=
  ∀ (rr : Reg16) (s : State),
    encode (Form.addHl rr).instr = [0x09 + codePair rr * 16] ∧
    exec (Form.addHl rr).instr s =
      .next { (s.setPair .hl (s.pair .hl + s.pair rr)).setFlags (decide (s.pair .hl + s.pair rr = 0#16)) false
        (add16 (s.pair .hl) (s.pair rr)).h (add16 (s.pair .hl) (s.pair rr)).c with cycles := 2 }

/-- `INC rr` and `DEC rr`: mod 2^16, no flag written (41_alu16.md R163, R164). -/
def Obligations.IncrementAndDecrementOfAPair : Prop :=
  ∀ (rr : Reg16) (s : State),
    encode (Form.incPair rr).instr = [0x03 + codePair rr * 16] ∧
    encode (Form.decPair rr).instr = [0x0B + codePair rr * 16] ∧
    exec (Form.incPair rr).instr s = .next { s.setPair rr (s.pair rr + 1) with cycles := 2 } ∧
    exec (Form.decPair rr).instr s = .next { s.setPair rr (s.pair rr - 1) with cycles := 2 }

/-! ## Rotates, shifts, bits -/

/-- `RLCA`, `RLA`, `RRCA`, `RRA` always clear Zero (42_rotate_shift_bit.md R170 to R173; Zero is the spec's decision D7). -/
def Obligations.AccumulatorRotates : Prop :=
  ∀ s : State,
    (encode .rlca = [0x07] ∧ encode .rla = [0x17] ∧ encode .rrca = [0x0F] ∧ encode .rra = [0x1F]) ∧
    exec .rlca s = .next { (s.setReg .a (rotate .rlc s.regs.a s.flagC).res).setFlags false false false
      (s.regs.a.getLsbD 7) with cycles := 1 } ∧
    exec .rla s = .next { (s.setReg .a (rotate .rl s.regs.a s.flagC).res).setFlags false false false
      (s.regs.a.getLsbD 7) with cycles := 1 } ∧
    exec .rrca s = .next { (s.setReg .a (rotate .rrc s.regs.a s.flagC).res).setFlags false false false
      (s.regs.a.getLsbD 0) with cycles := 1 } ∧
    exec .rra s = .next { (s.setReg .a (rotate .rr s.regs.a s.flagC).res).setFlags false false false
      (s.regs.a.getLsbD 0) with cycles := 1 }

/-- The rotates, shifts and `SWAP` of the secondary table on a register (42_rotate_shift_bit.md R175, R177, R179, R181,
R183, R185, R187, R189; Zero by the result is the spec's decision D7). -/
def Obligations.RotatesAndShiftsOfARegister : Prop :=
  ∀ (op : RotOp) (r : Reg8) (s : State),
    encode (Form.rotReg op r).instr = [0xCB, codeRot op * 8 + codeReg r] ∧
    exec (Form.rotReg op r).instr s =
      .next { (s.setReg r (rotate op (s.reg r) s.flagC).res).setFlags
        (decide ((rotate op (s.reg r) s.flagC).res = 0#8)) false false (rotate op (s.reg r) s.flagC).c with cycles := 2 }

/-- The same on the byte at `HL` (42_rotate_shift_bit.md R176, R178, R180, R182, R184, R186, R188, R190; decision D7). -/
def Obligations.RotatesAndShiftsOfTheByteAtHl : Prop :=
  ∀ (op : RotOp) (s : State),
    encode (Form.rotMem op).instr = [0xCB, codeRot op * 8 + 6] ∧
    (Accessible s (s.pair .hl) → exec (Form.rotMem op).instr s =
      .next { (afterWrite (s.pair .hl) (rotate op (readValue (s.pair .hl) s) s.flagC).res
        (afterRead (s.pair .hl) s)).setFlags (decide ((rotate op (readValue (s.pair .hl) s) s.flagC).res = 0#8)) false
        false (rotate op (readValue (s.pair .hl) s) s.flagC).c with cycles := 4 }) ∧
    (¬ Accessible s (s.pair .hl) → exec (Form.rotMem op).instr s = accessStop (s.pair .hl) .read s)

/-- `BIT b,r` and `BIT b,(HL)` write the four flags and nothing else (42_rotate_shift_bit.md R191, R192). -/
def Obligations.BitTests : Prop :=
  (∀ (b : Ix8) (r : Reg8) (s : State),
    encode (Form.bitReg b r).instr = [0xCB, 0x40 + codeIx b * 8 + codeReg r] ∧
    exec (Form.bitReg b r).instr s =
      .next { s.setFlags (decide ((s.reg r).getLsbD b.toNat = false)) false false false with cycles := 2 }) ∧
  (∀ (b : Ix8) (s : State),
    encode (Form.bitMem b).instr = [0xCB, 0x46 + codeIx b * 8] ∧
    (Accessible s (s.pair .hl) → exec (Form.bitMem b).instr s =
      .next { (afterRead (s.pair .hl) s).setFlags (decide ((readValue (s.pair .hl) s).getLsbD b.toNat = false)) false
        false false with cycles := 3 }) ∧
    (¬ Accessible s (s.pair .hl) → exec (Form.bitMem b).instr s = accessStop (s.pair .hl) .read s))

/-- `RES` and `SET`, on a register and on the byte at `HL`: one bit, no flag (42_rotate_shift_bit.md R193 to R196). -/
def Obligations.BitResetsAndSets : Prop :=
  (∀ (b : Ix8) (r : Reg8) (s : State),
    encode (Form.resReg b r).instr = [0xCB, 0x80 + codeIx b * 8 + codeReg r] ∧
    encode (Form.setReg b r).instr = [0xCB, 0xC0 + codeIx b * 8 + codeReg r] ∧
    exec (Form.resReg b r).instr s = .next { s.setReg r (s.reg r &&& ~~~(1#8 <<< b.toNat)) with cycles := 2 } ∧
    exec (Form.setReg b r).instr s = .next { s.setReg r (s.reg r ||| (1#8 <<< b.toNat)) with cycles := 2 }) ∧
  (∀ (b : Ix8) (s : State),
    encode (Form.resMem b).instr = [0xCB, 0x86 + codeIx b * 8] ∧
    encode (Form.setMem b).instr = [0xCB, 0xC6 + codeIx b * 8] ∧
    (Accessible s (s.pair .hl) →
      exec (Form.resMem b).instr s = .next { afterWrite (s.pair .hl)
        (readValue (s.pair .hl) s &&& ~~~(1#8 <<< b.toNat)) (afterRead (s.pair .hl) s) with cycles := 4 } ∧
      exec (Form.setMem b).instr s = .next { afterWrite (s.pair .hl)
        (readValue (s.pair .hl) s ||| (1#8 <<< b.toNat)) (afterRead (s.pair .hl) s) with cycles := 4 }) ∧
    (¬ Accessible s (s.pair .hl) →
      exec (Form.resMem b).instr s = accessStop (s.pair .hl) .read s ∧
      exec (Form.setMem b).instr s = accessStop (s.pair .hl) .read s))

/-- `SET` then `BIT` of the same bit reports it set, `RES` then `BIT` reports it not set, and `BIT` changes no register
(42_rotate_shift_bit.md R197). -/
def Obligations.SetOrResetThenTest : Prop :=
  ∀ (b : Ix8) (r : Reg8) (s : State),
    (∃ t u, exec (Form.setReg b r).instr s = .next t ∧ exec (Form.bitReg b r).instr t = .next u ∧ u.flagZ = false) ∧
    (∃ t u, exec (Form.resReg b r).instr s = .next t ∧ exec (Form.bitReg b r).instr t = .next u ∧ u.flagZ = true) ∧
    (∃ u, exec (Form.bitReg b r).instr s = .next u ∧ (∀ x : Reg8, u.reg x = s.reg x) ∧ u.mem = s.mem ∧ u.ioIf = s.ioIf)

/-! ## Control transfer -/

/-- The jumps complete in every state, with `PC` past the instruction where they are not taken (45_control.md R260 to
R264). -/
def Obligations.Jumps : Prop :=
  ∀ (s : State) (nn : Word) (e : Byte) (cc : Cond),
    (encode (.jp_nn nn) = [0xC3, loByte nn, hiByte nn] ∧ encode .jp_HL = [0xE9] ∧ encode (.jr_e e) = [0x18, e] ∧
      encode (Form.jpCc cc nn).instr = [0xC2 + codeCond cc * 8, loByte nn, hiByte nn] ∧
      encode (Form.jrCc cc e).instr = [0x20 + codeCond cc * 8, e]) ∧
    exec (.jp_nn nn) s = .next { s with pc := nn, cycles := 4 } ∧
    exec .jp_HL s = .next { s with pc := s.pair .hl, cycles := 1 } ∧
    exec (.jr_e e) s = .next { s with pc := s.pc + e.signExtend 16, cycles := 3 } ∧
    (s.holds cc = true →
      exec (Form.jpCc cc nn).instr s = .next { s with pc := nn, cycles := 4 } ∧
      exec (Form.jrCc cc e).instr s = .next { s with pc := s.pc + e.signExtend 16, cycles := 3 }) ∧
    (s.holds cc = false →
      exec (Form.jpCc cc nn).instr s = .next { s with cycles := 3 } ∧
      exec (Form.jrCc cc e).instr s = .next { s with cycles := 2 }) ∧
    (s.holds .nz = !s.regs.f.getLsbD 7 ∧ s.holds .z = s.regs.f.getLsbD 7 ∧ s.holds .nc = !s.regs.f.getLsbD 4 ∧
      s.holds .c = s.regs.f.getLsbD 4)

/-- `CALL nn`, `CALL cc,nn`, `RST t` push the address of the next instruction and jump (45_control.md R265, R266, R275;
where the word goes is the spec's decision D3). -/
def Obligations.CallsAndRestarts : Prop :=
  ∀ (s : State) (nn : Word) (cc : Cond) (t : Ix8),
    (encode (.call_nn nn) = [0xCD, loByte nn, hiByte nn] ∧
      encode (Form.callCc cc nn).instr = [0xC4 + codeCond cc * 8, loByte nn, hiByte nn] ∧
      encode (Form.rst t).instr = [0xC7 + codeIx t * 8]) ∧
    (Accessible2 s (s.sp - 2) →
      exec (.call_nn nn) s = .next { afterWrite2 (s.sp - 2) s.pc s with sp := s.sp - 2, pc := nn, cycles := 6 } ∧
      (s.holds cc = true → exec (Form.callCc cc nn).instr s =
        .next { afterWrite2 (s.sp - 2) s.pc s with sp := s.sp - 2, pc := nn, cycles := 6 }) ∧
      exec (Form.rst t).instr s = .next { afterWrite2 (s.sp - 2) s.pc s with
        sp := s.sp - 2, pc := BitVec.ofNat 16 (t.toNat * 8), cycles := 4 }) ∧
    (s.holds cc = false → exec (Form.callCc cc nn).instr s = .next { s with cycles := 3 }) ∧
    (¬ Accessible s (s.sp - 2) →
      exec (.call_nn nn) s = accessStop (s.sp - 2) .write s ∧ exec (Form.rst t).instr s = accessStop (s.sp - 2) .write s ∧
      (s.holds cc = true → exec (Form.callCc cc nn).instr s = accessStop (s.sp - 2) .write s)) ∧
    (Accessible s (s.sp - 2) → ¬ Accessible s (s.sp - 2 + 1) →
      exec (.call_nn nn) s = accessStop (s.sp - 2 + 1) .write s ∧
      exec (Form.rst t).instr s = accessStop (s.sp - 2 + 1) .write s ∧
      (s.holds cc = true → exec (Form.callCc cc nn).instr s = accessStop (s.sp - 2 + 1) .write s))

/-- `RET`, `RET cc`, `RETI` pop an address into `PC`; `RETI` sets `IME` at once (45_control.md R270, R271, R274; the stack
discipline is the spec's decision D3, `RETI` its decision D18). -/
def Obligations.Returns : Prop :=
  ∀ (s : State) (cc : Cond),
    (encode .ret = [0xC9] ∧ encode .reti = [0xD9] ∧ encode (Form.retCc cc).instr = [0xC0 + codeCond cc * 8]) ∧
    (Accessible2 s s.sp →
      exec .ret s = .next { afterRead2 s.sp s with sp := s.sp + 2, pc := readValue2 s.sp s, cycles := 4 } ∧
      (s.holds cc = true → exec (Form.retCc cc).instr s =
        .next { afterRead2 s.sp s with sp := s.sp + 2, pc := readValue2 s.sp s, cycles := 5 }) ∧
      exec .reti s =
        .next { afterRead2 s.sp s with sp := s.sp + 2, pc := readValue2 s.sp s, ime := true, cycles := 4 }) ∧
    (s.holds cc = false → exec (Form.retCc cc).instr s = .next { s with cycles := 2 }) ∧
    (¬ Accessible s s.sp →
      exec .ret s = accessStop s.sp .read s ∧ exec .reti s = accessStop s.sp .read s ∧
      (s.holds cc = true → exec (Form.retCc cc).instr s = accessStop s.sp .read s)) ∧
    (Accessible s s.sp → ¬ Accessible s (s.sp + 1) →
      exec .ret s = accessStop (s.sp + 1) .read s ∧ exec .reti s = accessStop (s.sp + 1) .read s ∧
      (s.holds cc = true → exec (Form.retCc cc).instr s = accessStop (s.sp + 1) .read s))

/-- What is pushed is popped: a pushed pair comes back whole and a call returns to the address after it, with `SP` as it
was, where both stack bytes are stored (44_load16_stack.md R247, 45_control.md R265, R270; the spec's decision D3). -/
def Obligations.PopUndoesPush : Prop :=
  ∀ s : State, MemoryOk s → storedByte (s.sp - 2) s ≠ none → storedByte (s.sp - 2 + 1) s ≠ none →
    (∀ v : Word, ∃ t u, push16 v s = .next t ∧ pop16 t = .next (v, u) ∧ u.sp = s.sp) ∧
    (∀ nn : Word, ∃ t u, exec (.call_nn nn) s = .next t ∧ t.pc = nn ∧ exec .ret t = .next u ∧ u.pc = s.pc ∧ u.sp = s.sp ∧
      u.regs = s.regs)

/-! ## System instructions and the interrupt timers -/

/-- `NOP` is the byte 0x00; a step that runs it moves `PC` by one, leaves the cost 1, and changes no register, flag or
byte of memory (46_system.md R280). -/
def Obligations.NopOnlyAdvances : Prop :=
  encode .nop = [0x00] ∧ (∀ s : State, exec .nop s = .next { s with cycles := 1 }) ∧
  (∀ s : State, Running s → storedByte s.pc s = some 0x00 →
    step s = .next (tickTimers { s with pc := s.pc + 1, cycles := 1 }) ∧
    (∃ t, step s = .next t ∧ t.pc = s.pc + 1 ∧ t.cycles = 1 ∧ t.regs = s.regs ∧ t.sp = s.sp ∧ t.halted = s.halted ∧
      t.mem = s.mem ∧ t.ioIf = s.ioIf))

/-- `HALT` enters the Halted state with `PC` after it, whatever `IME` is (46_system.md R281). -/
def Obligations.HaltStops : Prop :=
  ∀ s : State, encode .halt = [0x76] ∧ exec .halt s = .next { s with halted := true, cycles := 1 }

/-- `DI` and `EI` arm their timer with 2 and do not write `IME` (46_system.md R283, R284; the value 2 is the spec's decision
D4). -/
def Obligations.DiAndEiArmTheirTimers : Prop :=
  ∀ s : State,
    encode .di = [0xF3] ∧ encode .ei = [0xFB] ∧ exec .di s = .next { s with diPending := 2, cycles := 1 } ∧
    exec .ei s = .next { s with eiPending := 2, cycles := 1 }

/-- `STOP` consumes the next byte and halts if it is zero, and does nothing otherwise (46_system.md R282, the spec's
decision D17): the decoder takes the same bytes as the step (30_encoding.md R95). At a timer port the byte is free (log 5)
and either case may hold. -/
def Obligations.StopLooksAtTheNextByte : Prop :=
  (∀ (v : Byte) (rest : List Byte), decode (0x10 :: 0x00 :: rest) = .ok (.stop, rest) ∧
    (v ≠ 0x00 → decode (0x10 :: v :: rest) = .ok (.stop, v :: rest))) ∧
  (∀ s : State, Running s → storedByte s.pc s = some 0x10 → storedByte (s.pc + 1) s = some 0x00 →
    step s = .next (tickTimers { s with pc := s.pc + 2, halted := true, cycles := 1 })) ∧
  (∀ (s : State) (v : Byte), Running s → storedByte s.pc s = some 0x10 → storedByte (s.pc + 1) s = some v → v ≠ 0x00 →
    step s = .next (tickTimers { s with pc := s.pc + 1, cycles := 1 })) ∧
  ∀ s : State,
    (Accessible s s.pc → readValue s.pc s = 0 →
      exec .stop s = .next { afterRead s.pc s with pc := s.pc + 1, halted := true, cycles := 1 }) ∧
    (Accessible s s.pc → readValue s.pc s ≠ 0 → exec .stop s = .next { afterRead s.pc s with cycles := 1 }) ∧
    (¬ Accessible s s.pc → exec .stop s = accessStop s.pc .read s)

/-- The prefix row fetches the second byte and executes the secondary table entry it selects (46_system.md R285): the same
effect as the row the decoder reads from the two bytes, and it completes wherever that row's operand is accessible. That
the row has a meaning of its own beside the 256 rows is the model's reading (log 9). -/
def Obligations.PrefixRunsTheSecondaryEntry : Prop :=
  (∀ s : State, Accessible s s.pc →
    exec .prefix_CB s = exec (secondaryForm (readValue s.pc s)).instr { afterRead s.pc s with pc := s.pc + 1 }) ∧
  (∀ s : State, Accessible s s.pc → secondaryOperand (readValue s.pc s) ≠ none ∨ Accessible s (s.pair .hl) →
    ∃ t, exec .prefix_CB s = .next t ∧ t.pc = s.pc + 1 ∧ t.sp = s.sp) ∧
  (∀ s : State, ¬ Accessible s s.pc → exec .prefix_CB s = accessStop s.pc .read s)

/-- `TickInterruptTimers()`: an armed timer counts down by one and acts on reaching zero, the disable timer first; a timer
at zero does nothing; nothing else changes (60_exceptions.md R308; the spec's decisions D4 and D19). -/
def Obligations.TimersTickAfterAnInstruction : Prop :=
  ∀ s : State,
    (tickTimers s).diPending.toNat = s.diPending.toNat - 1 ∧ (tickTimers s).eiPending.toNat = s.eiPending.toNat - 1 ∧
    (tickTimers s).ime = (if s.eiPending = 1 then true else if s.diPending = 1 then false else s.ime) ∧
    { tickTimers s with diPending := s.diPending, eiPending := s.eiPending, ime := s.ime } = s

/-- The one delayed effect: the `IME` write of `DI` and of `EI` comes at the end of the instruction after it, whatever that
instruction is, unless it arms the same timer again (70_reset_and_hazards.md R334, 46_system.md R283, R284; the spec's
decision D4; log 12). -/
def Obligations.DiAndEiTakeEffectOneInstructionLater : Prop :=
  (∀ (s s1 t t1 u : State) (j : Instr), Running s → s.diPending = 0 → s.ime = false →
    fetchInstr s = .next (.ei, s1) → step s = .next t → fetchInstr t = .next (j, t1) → j ≠ .ei → step t = .next u →
    t.ime = false ∧ t.eiPending = 1 ∧ u.ime = true ∧ u.eiPending = 0) ∧
  (∀ (s s1 t t1 u : State) (j : Instr), Running s → s.eiPending = 0 → s.ime = true →
    fetchInstr s = .next (.di, s1) → step s = .next t → fetchInstr t = .next (j, t1) → j ≠ .di → step t = .next u →
    t.ime = true ∧ t.diPending = 1 ∧ u.ime = false ∧ u.diPending = 0)

/-- `IME` is written in exactly four ways: false by the expiry of the disable timer, true by the expiry of the enable
timer, true by `RETI`, true by reset (60_exceptions.md R307; that a timer at 1 expires is the spec's decision D4). The
guards `i ≠ .di` and `i ≠ .ei` say that arming a timer again restarts its count, so that a timer at 1 does not expire in a
step that arms it: the model's reading (log 12), after the spec's decision D19 and against the words "or another `EI`" of
70_reset_and_hazards.md R334. -/
def Obligations.ImeIsWrittenInFourWays : Prop :=
  (∀ (s s1 t : State) (i : Instr), TimersOk s → s.halted = false → fetchInstr s = .next (i, s1) → step s = .next t →
    t.ime = (if s.diPending = 1 ∧ i ≠ .di then false else if s.eiPending = 1 ∧ i ≠ .ei then true
      else if i = .reti then true else s.ime)) ∧
  (∀ s t : State, s.halted = true → step s = .next t → t.ime = s.ime) ∧
  State.reset.ime = true ∧ (∀ s t : State, hostReset s = .next t → t.ime = true)

/-- The Halted state is entered by `HALT` and by `STOP` with a zero operand byte and by nothing else; a Halted step changes
nothing, so no step leaves it; a reset does (10_state.md R20; the Halted step is the spec's decision D16). -/
def Obligations.HaltedIsEnteredByHaltAndStopAndNeverLeft : Prop :=
  (∀ (s s1 t : State) (i : Instr), s.halted = false → fetchInstr s = .next (i, s1) → step s = .next t →
    (t.halted = true ↔ i = .halt ∨ (i = .stop ∧ ∃ s2, memRead s1.pc s1 = .next (0, s2)))) ∧
  (∀ s t : State, s.halted = true → step s = .next t → t = s) ∧
  (∀ s t : State, hostReset s = .next t → t.halted = false)

/-- Every executed instruction leaves a cost from 1 to 6 in `cycles` (10_state.md R24; the single costs are the spec's
decision D8). -/
def Obligations.EveryExecutedInstructionLeavesItsCost : Prop :=
  ∀ s t : State, s.halted = false → step s = .next t → 1 ≤ t.cycles.toNat ∧ t.cycles.toNat ≤ 6

/-! ## Frames, and what can stop a step -/

/-- The register frame of all 512 rows: an instruction that completes leaves every general register outside its write set,
the flags, `SP` and `PC` as they were, unless its form writes them (10_state.md R10, R16, R19; the rule of each form). -/
def Obligations.RegistersOutsideTheWriteSetAreUnchanged : Prop :=
  ∀ (i : Instr) (s t : State), exec i s = .next t →
    (∀ r : Reg8, formWritesReg i.form r = false → t.reg r = s.reg r) ∧
    (formWritesFlags i.form = false → t.regs.f = s.regs.f) ∧
    (formWritesSp i.form = false → t.sp = s.sp) ∧
    (formWritesPc i.form = false → t.pc = s.pc)

/-- The frame of the control state of all 512 rows: `halted` moves only by `HALT` and `STOP`, `IME` only by `RETI`, a timer
only by `DI` or `EI`; the fault record and the cartridge's length and tail never (10_state.md R20 to R25). -/
def Obligations.ControlStateOutsideTheWriteSetIsUnchanged : Prop :=
  ∀ (i : Instr) (s t : State), exec i s = .next t →
    (i ≠ .halt → i ≠ .stop → t.halted = s.halted) ∧ (i ≠ .reti → t.ime = s.ime) ∧
    (i ≠ .di → t.diPending = s.diPending) ∧ (i ≠ .ei → t.eiPending = s.eiPending) ∧
    t.fault = s.fault ∧ t.romLength = s.romLength ∧ t.romTail = s.romTail

/-- The memory frame of all 512 rows: an instruction that completes leaves every byte as it was but the bytes at the
addresses it stores to (`formStores`: none for a form that stores nothing), the interrupt-flag register among them
(20_memory.md R51, R63). -/
def Obligations.MemoryOutsideTheStoredBytesIsUnchanged : Prop :=
  ∀ (i : Instr) (s t : State), MemoryOk s → exec i s = .next t →
    ∀ b : Word, (∀ a ∈ formStores i.form s, placeOf s.romLength b ≠ placeOf s.romLength a) →
      storedByte b t = storedByte b s

/-- With a cartridge image of full length a session that has not faulted is never refused: a step completes or raises one
of the three faults that can be raised; `UnknownExtendedOpcode` never (60_exceptions.md R301, 30_encoding.md R91; the
spec's decisions D5 and D31). -/
def Obligations.AStepCompletesOrRaisesANamedFault : Prop :=
  (∀ (s : State), s.fault = none → 0x8000 ≤ s.romLength →
    (∃ t, step s = .next t) ∨ (∃ op a, step s = .fault (.unknownOpcode op a)) ∨
    (∃ a d, step s = .fault (.unimplementedRegion a d)) ∨ (∃ a d, step s = .fault (.unallocatedExternalRam a d))) ∧
  (∀ (s : State) (op2 : Byte) (a : Word), step s ≠ .fault (.unknownExtendedOpcode op2 a)) ∧
  (∀ (s : State) (r : Refusal), step s = .refused r → r = .faultedSession ∨ ∃ a d, r = .beyondRomImage a d)
end

