-- ==== Sys2Proof/Laws/Memory.lean ====
section
/-! SUPPORT. The laws of storage: every operation keeps the canonical form, a byte written is read back, and no other byte
moves. -/

namespace Sys2Proof.Machine

theorem Memory.wf_cons (c : Host.Cell) (m : Memory) : Memory.wf (c :: m) = true ↔
    c.2 ≠ Config.unlistedByte ∧ ownsByte c.1 = true ∧ (∀ x ∈ m, c.1 < x.1) ∧ Memory.wf m = true := by
  simp [Memory.wf, and_assoc]

/-- An address below every listed one reads as an unlisted address. -/
theorem Memory.get_below (m : Memory) (k : Nat) (h : ∀ x ∈ m, k < x.1) : Memory.get m k = Config.unlistedByte := by
  induction m with
  | nil => rfl
  | cons c m ih =>
    have hc : k < c.1 := h c (by simp)
    simp only [Memory.get, if_neg (Nat.ne_of_gt hc)]
    exact ih fun x hx => h x (by simp [hx])

/-- The cells of a memory after a store are among the old ones and the new one. -/
theorem Memory.mem_set (m : Memory) (k : Nat) (v : Byte) (x : Host.Cell) (h : x ∈ Memory.set m k v) :
    x ∈ m ∨ x = (k, v) := by
  induction m with
  | nil =>
    simp only [Memory.set] at h
    split at h <;> simp_all
  | cons c m ih =>
    simp only [Memory.set] at h
    split at h
    · split at h <;> simp_all
      rcases h with h | h | h <;> simp_all
    · split at h
      · split at h <;> simp_all
        rcases h with h | h <;> simp_all
      · rcases List.mem_cons.1 h with h | h
        · simp [h]
        · rcases ih h with h | h <;> simp [h]

/-- A store at an address that owns a byte keeps the canonical form. -/
theorem Memory.wf_set (m : Memory) (k : Nat) (v : Byte) (hm : Memory.wf m = true) (hk : ownsByte k = true) :
    Memory.wf (Memory.set m k v) = true := by
  induction m with
  | nil =>
    simp only [Memory.set]
    split
    · rfl
    · simp_all [Memory.wf]
  | cons c m ih =>
    obtain ⟨h1, h2, h3, h4⟩ := (Memory.wf_cons c m).1 hm
    simp only [Memory.set]
    split
    · split
      · exact hm
      · refine (Memory.wf_cons _ _).2 ⟨by simpa using ‹¬ v = _›, hk, ?_, hm⟩
        intro x hx
        rcases List.mem_cons.1 hx with rfl | hx
        · assumption
        · exact Nat.lt_trans ‹k < c.1› (h3 x hx)
    · split
      · split
        · exact h4
        · subst k
          exact (Memory.wf_cons _ _).2 ⟨by simpa using ‹¬ v = _›, hk, h3, h4⟩
      · refine (Memory.wf_cons _ _).2 ⟨h1, h2, ?_, ih h4⟩
        intro x hx
        rcases Memory.mem_set m k v x hx with hx | rfl
        · exact h3 x hx
        · simp only
          omega

/-- A byte written is read back. -/
theorem Memory.get_set_same (m : Memory) (k : Nat) (v : Byte) (hm : Memory.wf m = true) :
    Memory.get (Memory.set m k v) k = v := by
  induction m with
  | nil =>
    simp only [Memory.set]
    split
    · simp_all [Memory.get]
    · simp [Memory.get]
  | cons c m ih =>
    obtain ⟨_, _, h3, h4⟩ := (Memory.wf_cons c m).1 hm
    simp only [Memory.set]
    split
    · split
      · rename_i hlt hv
        rw [hv]
        exact Memory.get_below _ _ fun x hx => by
          rcases List.mem_cons.1 hx with rfl | hx
          · exact hlt
          · exact Nat.lt_trans hlt (h3 x hx)
      · simp [Memory.get]
    · split
      · split
        · rename_i he hv
          rw [hv]
          exact Memory.get_below _ _ fun x hx => he ▸ h3 x hx
        · simp [Memory.get]
      · simp only [Memory.get, if_neg (Ne.symm ‹¬ k = c.1›)]
        exact ih h4

/-- No other address reads differently after a store. -/
theorem Memory.get_set_other (m : Memory) (k j : Nat) (v : Byte) (hm : Memory.wf m = true) (h : j ≠ k) :
    Memory.get (Memory.set m k v) j = Memory.get m j := by
  induction m with
  | nil =>
    simp only [Memory.set]
    split
    · rfl
    · simp [Memory.get, Ne.symm h]
  | cons c m ih =>
    obtain ⟨_, _, h3, h4⟩ := (Memory.wf_cons c m).1 hm
    simp only [Memory.set]
    split
    · split
      · rfl
      · simp [Memory.get, Ne.symm h]
    · split
      · rename_i he
        split
        · simp only [Memory.get]
          rw [if_neg (by omega)]
        · simp only [Memory.get]
          rw [if_neg (Ne.symm h), if_neg (by omega)]
      · simp only [Memory.get]
        rw [ih h4]

/-- Storing bytes at rising addresses that own a byte keeps the canonical form. -/
theorem Memory.wf_load (bytes : List Byte) (m : Memory) (base : Nat) (hm : Memory.wf m = true)
    (hk : ∀ k, base ≤ k → k < base + bytes.length → ownsByte k = true) : Memory.wf (Memory.load m base bytes) = true := by
  induction bytes generalizing m base with
  | nil => exact hm
  | cons v rest ih =>
    refine ih _ _ (Memory.wf_set m base v hm (hk base (Nat.le_refl _) (by simp))) fun k h1 h2 => hk k (by omega) ?_
    simp only [List.length_cons]
    omega

/-- Addresses outside a loaded block read as before. -/
theorem Memory.get_load_other (bytes : List Byte) (m : Memory) (base j : Nat) (hm : Memory.wf m = true)
    (hk : ∀ k, base ≤ k → k < base + bytes.length → ownsByte k = true) (h : j < base ∨ base + bytes.length ≤ j) :
    Memory.get (Memory.load m base bytes) j = Memory.get m j := by
  induction bytes generalizing m base with
  | nil => rfl
  | cons v rest ih =>
    simp only [List.length_cons] at h hk
    have hw := Memory.wf_set m base v hm (hk base (Nat.le_refl _) (by omega))
    rw [Memory.load, ih _ _ hw (fun k h1 h2 => hk k (by omega) (by omega)) (by omega)]
    exact Memory.get_set_other m base j v hm (by omega)

/-- A loaded block reads back. -/
theorem Memory.get_load_same (bytes : List Byte) (m : Memory) (base j : Nat) (hm : Memory.wf m = true)
    (hk : ∀ k, base ≤ k → k < base + bytes.length → ownsByte k = true) (hj : j < bytes.length) :
    Memory.get (Memory.load m base bytes) (base + j) = bytes.getD j 0 := by
  induction bytes generalizing m base j with
  | nil => simp at hj
  | cons v rest ih =>
    simp only [List.length_cons] at hj hk
    have hw := Memory.wf_set m base v hm (hk base (Nat.le_refl _) (by omega))
    have hk' : ∀ k, base + 1 ≤ k → k < base + 1 + rest.length → ownsByte k = true :=
      fun k h1 h2 => hk k (by omega) (by omega)
    cases j with
    | zero =>
      rw [Memory.load, Memory.get_load_other _ _ _ _ hw hk' (by omega)]
      simpa using Memory.get_set_same m base v hm
    | succ j =>
      have := ih (Memory.set m base v) (base + 1) j hw hk' (by omega)
      rw [Memory.load]
      simpa [Nat.add_assoc, Nat.add_comm 1 j] using this

end Sys2Proof.Machine
end

