-- ==== Sys2Proof/Laws/State.lean ====
section
/-! SUPPORT. One lemma for each field of `State` under each update of the register file: nothing else moves. -/

namespace Sys2Proof.Machine

variable (s : State)

/-! ### `setReg` -/

@[simp] theorem pc_setReg (r : Reg8) (v : Byte) : (s.setReg r v).pc = s.pc := by cases r <;> rfl
@[simp] theorem sp_setReg (r : Reg8) (v : Byte) : (s.setReg r v).sp = s.sp := by cases r <;> rfl
@[simp] theorem halted_setReg (r : Reg8) (v : Byte) : (s.setReg r v).halted = s.halted := by cases r <;> rfl
@[simp] theorem ime_setReg (r : Reg8) (v : Byte) : (s.setReg r v).ime = s.ime := by cases r <;> rfl
@[simp] theorem diPending_setReg (r : Reg8) (v : Byte) : (s.setReg r v).diPending = s.diPending := by cases r <;> rfl
@[simp] theorem eiPending_setReg (r : Reg8) (v : Byte) : (s.setReg r v).eiPending = s.eiPending := by cases r <;> rfl
@[simp] theorem fault_setReg (r : Reg8) (v : Byte) : (s.setReg r v).fault = s.fault := by cases r <;> rfl
@[simp] theorem cycles_setReg (r : Reg8) (v : Byte) : (s.setReg r v).cycles = s.cycles := by cases r <;> rfl
@[simp] theorem mem_setReg (r : Reg8) (v : Byte) : (s.setReg r v).mem = s.mem := by cases r <;> rfl
@[simp] theorem ioIf_setReg (r : Reg8) (v : Byte) : (s.setReg r v).ioIf = s.ioIf := by cases r <;> rfl
@[simp] theorem romLength_setReg (r : Reg8) (v : Byte) : (s.setReg r v).romLength = s.romLength := by cases r <;> rfl
@[simp] theorem romTail_setReg (r : Reg8) (v : Byte) : (s.setReg r v).romTail = s.romTail := by cases r <;> rfl
@[simp] theorem portReads_setReg (r : Reg8) (v : Byte) : (s.setReg r v).portReads = s.portReads := by cases r <;> rfl

/-! ### `setF` -/

@[simp] theorem pc_setF (v : Byte) : (s.setF v).pc = s.pc := rfl
@[simp] theorem sp_setF (v : Byte) : (s.setF v).sp = s.sp := rfl
@[simp] theorem halted_setF (v : Byte) : (s.setF v).halted = s.halted := rfl
@[simp] theorem ime_setF (v : Byte) : (s.setF v).ime = s.ime := rfl
@[simp] theorem diPending_setF (v : Byte) : (s.setF v).diPending = s.diPending := rfl
@[simp] theorem eiPending_setF (v : Byte) : (s.setF v).eiPending = s.eiPending := rfl
@[simp] theorem fault_setF (v : Byte) : (s.setF v).fault = s.fault := rfl
@[simp] theorem cycles_setF (v : Byte) : (s.setF v).cycles = s.cycles := rfl
@[simp] theorem mem_setF (v : Byte) : (s.setF v).mem = s.mem := rfl
@[simp] theorem ioIf_setF (v : Byte) : (s.setF v).ioIf = s.ioIf := rfl
@[simp] theorem romLength_setF (v : Byte) : (s.setF v).romLength = s.romLength := rfl
@[simp] theorem romTail_setF (v : Byte) : (s.setF v).romTail = s.romTail := rfl
@[simp] theorem portReads_setF (v : Byte) : (s.setF v).portReads = s.portReads := rfl

/-! ### `setFlags` -/

@[simp] theorem pc_setFlags (z n h c : Bool) : (s.setFlags z n h c).pc = s.pc := rfl
@[simp] theorem sp_setFlags (z n h c : Bool) : (s.setFlags z n h c).sp = s.sp := rfl
@[simp] theorem halted_setFlags (z n h c : Bool) : (s.setFlags z n h c).halted = s.halted := rfl
@[simp] theorem ime_setFlags (z n h c : Bool) : (s.setFlags z n h c).ime = s.ime := rfl
@[simp] theorem diPending_setFlags (z n h c : Bool) : (s.setFlags z n h c).diPending = s.diPending := rfl
@[simp] theorem eiPending_setFlags (z n h c : Bool) : (s.setFlags z n h c).eiPending = s.eiPending := rfl
@[simp] theorem fault_setFlags (z n h c : Bool) : (s.setFlags z n h c).fault = s.fault := rfl
@[simp] theorem cycles_setFlags (z n h c : Bool) : (s.setFlags z n h c).cycles = s.cycles := rfl
@[simp] theorem mem_setFlags (z n h c : Bool) : (s.setFlags z n h c).mem = s.mem := rfl
@[simp] theorem ioIf_setFlags (z n h c : Bool) : (s.setFlags z n h c).ioIf = s.ioIf := rfl
@[simp] theorem romLength_setFlags (z n h c : Bool) : (s.setFlags z n h c).romLength = s.romLength := rfl
@[simp] theorem romTail_setFlags (z n h c : Bool) : (s.setFlags z n h c).romTail = s.romTail := rfl
@[simp] theorem portReads_setFlags (z n h c : Bool) : (s.setFlags z n h c).portReads = s.portReads := rfl

/-! ### `setPair` -/

@[simp] theorem pc_setPair (rr : Reg16) (v : Word) : (s.setPair rr v).pc = s.pc := by cases rr <;> rfl
@[simp] theorem halted_setPair (rr : Reg16) (v : Word) : (s.setPair rr v).halted = s.halted := by cases rr <;> rfl
@[simp] theorem ime_setPair (rr : Reg16) (v : Word) : (s.setPair rr v).ime = s.ime := by cases rr <;> rfl
@[simp] theorem diPending_setPair (rr : Reg16) (v : Word) : (s.setPair rr v).diPending = s.diPending := by cases rr <;> rfl
@[simp] theorem eiPending_setPair (rr : Reg16) (v : Word) : (s.setPair rr v).eiPending = s.eiPending := by cases rr <;> rfl
@[simp] theorem fault_setPair (rr : Reg16) (v : Word) : (s.setPair rr v).fault = s.fault := by cases rr <;> rfl
@[simp] theorem cycles_setPair (rr : Reg16) (v : Word) : (s.setPair rr v).cycles = s.cycles := by cases rr <;> rfl
@[simp] theorem mem_setPair (rr : Reg16) (v : Word) : (s.setPair rr v).mem = s.mem := by cases rr <;> rfl
@[simp] theorem ioIf_setPair (rr : Reg16) (v : Word) : (s.setPair rr v).ioIf = s.ioIf := by cases rr <;> rfl
@[simp] theorem romLength_setPair (rr : Reg16) (v : Word) : (s.setPair rr v).romLength = s.romLength := by cases rr <;> rfl
@[simp] theorem romTail_setPair (rr : Reg16) (v : Word) : (s.setPair rr v).romTail = s.romTail := by cases rr <;> rfl
@[simp] theorem portReads_setPair (rr : Reg16) (v : Word) : (s.setPair rr v).portReads = s.portReads := by cases rr <;> rfl

/-! ### `setStkPair` -/

@[simp] theorem pc_setStkPair (q : RegStk) (v : Word) : (s.setStkPair q v).pc = s.pc := by cases q <;> rfl
@[simp] theorem sp_setStkPair (q : RegStk) (v : Word) : (s.setStkPair q v).sp = s.sp := by cases q <;> rfl
@[simp] theorem halted_setStkPair (q : RegStk) (v : Word) : (s.setStkPair q v).halted = s.halted := by cases q <;> rfl
@[simp] theorem ime_setStkPair (q : RegStk) (v : Word) : (s.setStkPair q v).ime = s.ime := by cases q <;> rfl
@[simp] theorem diPending_setStkPair (q : RegStk) (v : Word) : (s.setStkPair q v).diPending = s.diPending := by cases q <;> rfl
@[simp] theorem eiPending_setStkPair (q : RegStk) (v : Word) : (s.setStkPair q v).eiPending = s.eiPending := by cases q <;> rfl
@[simp] theorem fault_setStkPair (q : RegStk) (v : Word) : (s.setStkPair q v).fault = s.fault := by cases q <;> rfl
@[simp] theorem cycles_setStkPair (q : RegStk) (v : Word) : (s.setStkPair q v).cycles = s.cycles := by cases q <;> rfl
@[simp] theorem mem_setStkPair (q : RegStk) (v : Word) : (s.setStkPair q v).mem = s.mem := by cases q <;> rfl
@[simp] theorem ioIf_setStkPair (q : RegStk) (v : Word) : (s.setStkPair q v).ioIf = s.ioIf := by cases q <;> rfl
@[simp] theorem romLength_setStkPair (q : RegStk) (v : Word) : (s.setStkPair q v).romLength = s.romLength := by cases q <;> rfl
@[simp] theorem romTail_setStkPair (q : RegStk) (v : Word) : (s.setStkPair q v).romTail = s.romTail := by cases q <;> rfl
@[simp] theorem portReads_setStkPair (q : RegStk) (v : Word) : (s.setStkPair q v).portReads = s.portReads := by cases q <;> rfl

/-! ### `ptrAfter` -/

@[simp] theorem pc_ptrAfter (p : Ptr) : (s.ptrAfter p).pc = s.pc := by cases p <;> rfl
@[simp] theorem sp_ptrAfter (p : Ptr) : (s.ptrAfter p).sp = s.sp := by cases p <;> rfl
@[simp] theorem halted_ptrAfter (p : Ptr) : (s.ptrAfter p).halted = s.halted := by cases p <;> rfl
@[simp] theorem ime_ptrAfter (p : Ptr) : (s.ptrAfter p).ime = s.ime := by cases p <;> rfl
@[simp] theorem diPending_ptrAfter (p : Ptr) : (s.ptrAfter p).diPending = s.diPending := by cases p <;> rfl
@[simp] theorem eiPending_ptrAfter (p : Ptr) : (s.ptrAfter p).eiPending = s.eiPending := by cases p <;> rfl
@[simp] theorem fault_ptrAfter (p : Ptr) : (s.ptrAfter p).fault = s.fault := by cases p <;> rfl
@[simp] theorem cycles_ptrAfter (p : Ptr) : (s.ptrAfter p).cycles = s.cycles := by cases p <;> rfl
@[simp] theorem mem_ptrAfter (p : Ptr) : (s.ptrAfter p).mem = s.mem := by cases p <;> rfl
@[simp] theorem ioIf_ptrAfter (p : Ptr) : (s.ptrAfter p).ioIf = s.ioIf := by cases p <;> rfl
@[simp] theorem romLength_ptrAfter (p : Ptr) : (s.ptrAfter p).romLength = s.romLength := by cases p <;> rfl
@[simp] theorem romTail_ptrAfter (p : Ptr) : (s.ptrAfter p).romTail = s.romTail := by cases p <;> rfl
@[simp] theorem portReads_ptrAfter (p : Ptr) : (s.ptrAfter p).portReads = s.portReads := by cases p <;> rfl

/-! ### `alu` -/

@[simp] theorem pc_alu (op : AluOp) (v : Byte) : (s.alu op v).pc = s.pc := by cases op <;> rfl
@[simp] theorem sp_alu (op : AluOp) (v : Byte) : (s.alu op v).sp = s.sp := by cases op <;> rfl
@[simp] theorem halted_alu (op : AluOp) (v : Byte) : (s.alu op v).halted = s.halted := by cases op <;> rfl
@[simp] theorem ime_alu (op : AluOp) (v : Byte) : (s.alu op v).ime = s.ime := by cases op <;> rfl
@[simp] theorem diPending_alu (op : AluOp) (v : Byte) : (s.alu op v).diPending = s.diPending := by cases op <;> rfl
@[simp] theorem eiPending_alu (op : AluOp) (v : Byte) : (s.alu op v).eiPending = s.eiPending := by cases op <;> rfl
@[simp] theorem fault_alu (op : AluOp) (v : Byte) : (s.alu op v).fault = s.fault := by cases op <;> rfl
@[simp] theorem cycles_alu (op : AluOp) (v : Byte) : (s.alu op v).cycles = s.cycles := by cases op <;> rfl
@[simp] theorem mem_alu (op : AluOp) (v : Byte) : (s.alu op v).mem = s.mem := by cases op <;> rfl
@[simp] theorem ioIf_alu (op : AluOp) (v : Byte) : (s.alu op v).ioIf = s.ioIf := by cases op <;> rfl
@[simp] theorem romLength_alu (op : AluOp) (v : Byte) : (s.alu op v).romLength = s.romLength := by cases op <;> rfl
@[simp] theorem romTail_alu (op : AluOp) (v : Byte) : (s.alu op v).romTail = s.romTail := by cases op <;> rfl
@[simp] theorem portReads_alu (op : AluOp) (v : Byte) : (s.alu op v).portReads = s.portReads := by cases op <;> rfl

/-! ### `setIncFlags` -/

@[simp] theorem pc_setIncFlags (x : Byte) : (s.setIncFlags x).pc = s.pc := rfl
@[simp] theorem sp_setIncFlags (x : Byte) : (s.setIncFlags x).sp = s.sp := rfl
@[simp] theorem halted_setIncFlags (x : Byte) : (s.setIncFlags x).halted = s.halted := rfl
@[simp] theorem ime_setIncFlags (x : Byte) : (s.setIncFlags x).ime = s.ime := rfl
@[simp] theorem diPending_setIncFlags (x : Byte) : (s.setIncFlags x).diPending = s.diPending := rfl
@[simp] theorem eiPending_setIncFlags (x : Byte) : (s.setIncFlags x).eiPending = s.eiPending := rfl
@[simp] theorem fault_setIncFlags (x : Byte) : (s.setIncFlags x).fault = s.fault := rfl
@[simp] theorem cycles_setIncFlags (x : Byte) : (s.setIncFlags x).cycles = s.cycles := rfl
@[simp] theorem mem_setIncFlags (x : Byte) : (s.setIncFlags x).mem = s.mem := rfl
@[simp] theorem ioIf_setIncFlags (x : Byte) : (s.setIncFlags x).ioIf = s.ioIf := rfl
@[simp] theorem romLength_setIncFlags (x : Byte) : (s.setIncFlags x).romLength = s.romLength := rfl
@[simp] theorem romTail_setIncFlags (x : Byte) : (s.setIncFlags x).romTail = s.romTail := rfl
@[simp] theorem portReads_setIncFlags (x : Byte) : (s.setIncFlags x).portReads = s.portReads := rfl

/-! ### `setDecFlags` -/

@[simp] theorem pc_setDecFlags (x : Byte) : (s.setDecFlags x).pc = s.pc := rfl
@[simp] theorem sp_setDecFlags (x : Byte) : (s.setDecFlags x).sp = s.sp := rfl
@[simp] theorem halted_setDecFlags (x : Byte) : (s.setDecFlags x).halted = s.halted := rfl
@[simp] theorem ime_setDecFlags (x : Byte) : (s.setDecFlags x).ime = s.ime := rfl
@[simp] theorem diPending_setDecFlags (x : Byte) : (s.setDecFlags x).diPending = s.diPending := rfl
@[simp] theorem eiPending_setDecFlags (x : Byte) : (s.setDecFlags x).eiPending = s.eiPending := rfl
@[simp] theorem fault_setDecFlags (x : Byte) : (s.setDecFlags x).fault = s.fault := rfl
@[simp] theorem cycles_setDecFlags (x : Byte) : (s.setDecFlags x).cycles = s.cycles := rfl
@[simp] theorem mem_setDecFlags (x : Byte) : (s.setDecFlags x).mem = s.mem := rfl
@[simp] theorem ioIf_setDecFlags (x : Byte) : (s.setDecFlags x).ioIf = s.ioIf := rfl
@[simp] theorem romLength_setDecFlags (x : Byte) : (s.setDecFlags x).romLength = s.romLength := rfl
@[simp] theorem romTail_setDecFlags (x : Byte) : (s.setDecFlags x).romTail = s.romTail := rfl
@[simp] theorem portReads_setDecFlags (x : Byte) : (s.setDecFlags x).portReads = s.portReads := rfl

/-! ### `setRotFlags` -/

@[simp] theorem pc_setRotFlags (x : Shifted) : (s.setRotFlags x).pc = s.pc := rfl
@[simp] theorem sp_setRotFlags (x : Shifted) : (s.setRotFlags x).sp = s.sp := rfl
@[simp] theorem halted_setRotFlags (x : Shifted) : (s.setRotFlags x).halted = s.halted := rfl
@[simp] theorem ime_setRotFlags (x : Shifted) : (s.setRotFlags x).ime = s.ime := rfl
@[simp] theorem diPending_setRotFlags (x : Shifted) : (s.setRotFlags x).diPending = s.diPending := rfl
@[simp] theorem eiPending_setRotFlags (x : Shifted) : (s.setRotFlags x).eiPending = s.eiPending := rfl
@[simp] theorem fault_setRotFlags (x : Shifted) : (s.setRotFlags x).fault = s.fault := rfl
@[simp] theorem cycles_setRotFlags (x : Shifted) : (s.setRotFlags x).cycles = s.cycles := rfl
@[simp] theorem mem_setRotFlags (x : Shifted) : (s.setRotFlags x).mem = s.mem := rfl
@[simp] theorem ioIf_setRotFlags (x : Shifted) : (s.setRotFlags x).ioIf = s.ioIf := rfl
@[simp] theorem romLength_setRotFlags (x : Shifted) : (s.setRotFlags x).romLength = s.romLength := rfl
@[simp] theorem romTail_setRotFlags (x : Shifted) : (s.setRotFlags x).romTail = s.romTail := rfl
@[simp] theorem portReads_setRotFlags (x : Shifted) : (s.setRotFlags x).portReads = s.portReads := rfl

/-! ### `setBitFlags` -/

@[simp] theorem pc_setBitFlags (b : Ix8) (x : Byte) : (s.setBitFlags b x).pc = s.pc := rfl
@[simp] theorem sp_setBitFlags (b : Ix8) (x : Byte) : (s.setBitFlags b x).sp = s.sp := rfl
@[simp] theorem halted_setBitFlags (b : Ix8) (x : Byte) : (s.setBitFlags b x).halted = s.halted := rfl
@[simp] theorem ime_setBitFlags (b : Ix8) (x : Byte) : (s.setBitFlags b x).ime = s.ime := rfl
@[simp] theorem diPending_setBitFlags (b : Ix8) (x : Byte) : (s.setBitFlags b x).diPending = s.diPending := rfl
@[simp] theorem eiPending_setBitFlags (b : Ix8) (x : Byte) : (s.setBitFlags b x).eiPending = s.eiPending := rfl
@[simp] theorem fault_setBitFlags (b : Ix8) (x : Byte) : (s.setBitFlags b x).fault = s.fault := rfl
@[simp] theorem cycles_setBitFlags (b : Ix8) (x : Byte) : (s.setBitFlags b x).cycles = s.cycles := rfl
@[simp] theorem mem_setBitFlags (b : Ix8) (x : Byte) : (s.setBitFlags b x).mem = s.mem := rfl
@[simp] theorem ioIf_setBitFlags (b : Ix8) (x : Byte) : (s.setBitFlags b x).ioIf = s.ioIf := rfl
@[simp] theorem romLength_setBitFlags (b : Ix8) (x : Byte) : (s.setBitFlags b x).romLength = s.romLength := rfl
@[simp] theorem romTail_setBitFlags (b : Ix8) (x : Byte) : (s.setBitFlags b x).romTail = s.romTail := rfl
@[simp] theorem portReads_setBitFlags (b : Ix8) (x : Byte) : (s.setBitFlags b x).portReads = s.portReads := rfl

/-! ### The registers under each update -/

@[simp] theorem sp_setPair_bc (v : Word) : (s.setPair .bc v).sp = s.sp := rfl
@[simp] theorem sp_setPair_de (v : Word) : (s.setPair .de v).sp = s.sp := rfl
@[simp] theorem sp_setPair_hl (v : Word) : (s.setPair .hl v).sp = s.sp := rfl
@[simp] theorem sp_setPair_sp (v : Word) : (s.setPair .sp v).sp = v := rfl

@[simp] theorem reg_setReg_same (r : Reg8) (v : Byte) : (s.setReg r v).reg r = v := by cases r <;> rfl

theorem reg_setReg_other (r x : Reg8) (v : Byte) (h : x ≠ r) : (s.setReg r v).reg x = s.reg x := by
  cases r <;> cases x <;> first | rfl | exact absurd rfl h

@[simp] theorem reg_setF (x : Reg8) (v : Byte) : (s.setF v).reg x = s.reg x := by cases x <;> rfl

@[simp] theorem reg_setFlags (x : Reg8) (z n h c : Bool) : (s.setFlags z n h c).reg x = s.reg x := by cases x <;> rfl

@[simp] theorem f_setReg (r : Reg8) (v : Byte) : (s.setReg r v).regs.f = s.regs.f := by cases r <;> rfl

@[simp] theorem f_setPair (rr : Reg16) (v : Word) : (s.setPair rr v).regs.f = s.regs.f := by cases rr <;> rfl

@[simp] theorem f_ptrAfter (p : Ptr) : (s.ptrAfter p).regs.f = s.regs.f := by cases p <;> rfl

theorem f_setF (v : Byte) : (s.setF v).regs.f = v &&& 0xF0 := rfl

/-- Every write of `F` leaves its low nibble zero (10_state.md R11). -/
@[simp] theorem lowNibble_setF (v : Byte) : (s.setF v).regs.f &&& 0x0F = 0 := by
  simp [f_setF, BitVec.and_assoc]

@[simp] theorem lowNibble_setFlags (z n h c : Bool) : (s.setFlags z n h c).regs.f &&& 0x0F = 0 := lowNibble_setF s _

/-- The masked write of `flags` keeps all four bits (10_state.md R14). -/
theorem f_setFlags (z n h c : Bool) : (s.setFlags z n h c).regs.f = flags z n h c := by
  cases z <;> cases n <;> cases h <;> cases c <;> rfl

@[simp] theorem flagZ_setFlags (z n h c : Bool) : (s.setFlags z n h c).flagZ = z := by
  simp only [State.flagZ, f_setFlags]
  revert z n h c
  decide

@[simp] theorem flagN_setFlags (z n h c : Bool) : (s.setFlags z n h c).flagN = n := by
  simp only [State.flagN, f_setFlags]
  revert z n h c
  decide

@[simp] theorem flagH_setFlags (z n h c : Bool) : (s.setFlags z n h c).flagH = h := by
  simp only [State.flagH, f_setFlags]
  revert z n h c
  decide

@[simp] theorem flagC_setFlags (z n h c : Bool) : (s.setFlags z n h c).flagC = c := by
  simp only [State.flagC, f_setFlags]
  revert z n h c
  decide

@[simp] theorem flagC_setReg (r : Reg8) (v : Byte) : (s.setReg r v).flagC = s.flagC := by cases r <;> rfl

@[simp] theorem pair_setFlags (rr : Reg16) (z n h c : Bool) : (s.setFlags z n h c).pair rr = s.pair rr := by
  cases rr <;> rfl

/-- The low nibble of `F` stays zero under every update that can write flags (10_state.md R11). -/
theorem lowNibble_alu (op : AluOp) (v : Byte) : (s.alu op v).regs.f &&& 0x0F = 0 := by
  cases op <;> exact lowNibble_setFlags _ _ _ _ _

theorem lowNibble_setStkPair (q : RegStk) (v : Word) (h : s.regs.f &&& 0x0F = 0) :
    (s.setStkPair q v).regs.f &&& 0x0F = 0 := by
  cases q
  · exact h
  · exact h
  · exact h
  · exact lowNibble_setF _ _

/-! ### Bytes and words -/

theorem toNat_hiByte (v : Word) : (hiByte v).toNat = v.toNat / 256 := by
  have := v.isLt
  simp only [hiByte, BitVec.extractLsb'_toNat, Nat.shiftRight_eq_div_pow]
  omega

theorem toNat_loByte (v : Word) : (loByte v).toNat = v.toNat % 256 := by
  simp [loByte, BitVec.extractLsb'_toNat]

theorem toNat_joinBytes (x y : Byte) : (joinBytes x y).toNat = x.toNat * 256 + y.toNat := by
  show (x ++ y).toNat = _
  rw [BitVec.toNat_append, ← Nat.shiftLeft_add_eq_or_of_lt y.isLt, Nat.shiftLeft_eq]

@[simp] theorem hiByte_joinBytes (x y : Byte) : hiByte (joinBytes x y) = x := by
  have := y.isLt
  apply BitVec.eq_of_toNat_eq
  rw [toNat_hiByte, toNat_joinBytes]
  omega

@[simp] theorem loByte_joinBytes (x y : Byte) : loByte (joinBytes x y) = y := by
  have := y.isLt
  apply BitVec.eq_of_toNat_eq
  rw [toNat_loByte, toNat_joinBytes]
  omega

@[simp] theorem joinBytes_hiByte_loByte (v : Word) : joinBytes (hiByte v) (loByte v) = v := by
  apply BitVec.eq_of_toNat_eq
  rw [toNat_joinBytes, toNat_hiByte, toNat_loByte]
  omega

@[simp] theorem pair_setPair_same (rr : Reg16) (v : Word) : (s.setPair rr v).pair rr = v := by
  cases rr <;> simp [State.setPair, State.pair]

end Sys2Proof.Machine
end

