-- ==== Sys2Proof/Laws/Ops.lean ====
section
/-! SUPPORT. What each shared operation can do, said once: where it goes on and with what, where it stops, and what it
leaves alone. Later proofs cite these and unfold no operation. -/

namespace Sys2Proof.Machine

/-! ## Sequencing -/

@[simp] theorem andThen_of_next {α β : Type} (a : α) (k : α → Result β) : andThen (.next a) k = k a := rfl
@[simp] theorem andThen_of_fault {α β : Type} (f : Fault) (k : α → Result β) : andThen (.fault f) k = .fault f := rfl
@[simp] theorem andThen_of_refused {α β : Type} (x : Refusal) (k : α → Result β) :
    andThen (.refused x) k = .refused x := rfl

/-- A sequence that goes on went on at both parts. -/
theorem andThen_next {α β : Type} {r : Result α} {k : α → Result β} {b : β} (h : andThen r k = .next b) :
    ∃ a, r = .next a ∧ k a = .next b := by
  cases r with
  | next a => exact ⟨a, rfl, h⟩
  | fault f => cases h
  | refused x => cases h

/-- A sequence that faults faulted at one of its parts. -/
theorem andThen_fault {α β : Type} {r : Result α} {k : α → Result β} {f : Fault} (h : andThen r k = .fault f) :
    r = .fault f ∨ ∃ a, r = .next a ∧ k a = .fault f := by
  cases r with
  | next a => exact .inr ⟨a, rfl, h⟩
  | fault g => exact .inl (by simpa [andThen] using h)
  | refused x => cases h

/-- A sequence that is refused was refused at one of its parts. -/
theorem andThen_refused {α β : Type} {r : Result α} {k : α → Result β} {x : Refusal} (h : andThen r k = .refused x) :
    r = .refused x ∨ ∃ a, r = .next a ∧ k a = .refused x := by
  cases r with
  | next a => exact .inr ⟨a, rfl, h⟩
  | fault g => cases h
  | refused y => exact .inl (by simpa [andThen] using h)

/-! ## The address decode -/

/-- A stored byte belongs to the owning address the decode names, which owns a byte and is inside the image. -/
theorem placeOf_cell {n k : Nat} {a : Word} (h : placeOf n a = .cell k) :
    ownsByte k = true ∧ (k < 0x8000 → k < n) := by
  have hlt := a.isLt
  simp only [placeOf] at h
  simp only [ownsByte, Bool.or_eq_true, Bool.and_eq_true, decide_eq_true_eq]
  repeat' split at h
  all_goals simp only [Place.cell.injEq, reduceCtorEq] at h
  all_goals omega

/-- An address stores a byte exactly where the decode names a cell or the interrupt-flag register; such an address is
accessible. -/
theorem accessible_of_stored {s : State} {a : Word} (h : storedByte a s ≠ none) : Accessible s a := by
  simp only [storedByte] at h
  refine ⟨?_, ?_, ?_⟩ <;> intro hp <;> simp [hp] at h

/-! ## The memory port -/

/-- A read of an accessible address. -/
theorem memRead_accessible {s : State} {a : Word} (h : Accessible s a) :
    memRead a s = .next (readValue a s, afterRead a s) := by
  obtain ⟨h1, h2, h3⟩ := h
  simp only [memRead, readValue, storedByte, afterRead]
  split <;> simp_all

/-- A read of any other address. -/
theorem memRead_stop {s : State} {a : Word} (h : ¬ Accessible s a) : memRead a s = accessStop a .read s := by
  simp only [Accessible] at h
  simp only [memRead, accessStop, raise]
  split <;> simp_all

/-- A write to an accessible address. -/
theorem memWrite_accessible {s : State} {a : Word} (v : Byte) (h : Accessible s a) :
    memWrite a v s = .next (afterWrite a v s) := by
  obtain ⟨h1, h2, h3⟩ := h
  simp only [memWrite, afterWrite]
  split <;> simp_all

/-- A write to any other address. -/
theorem memWrite_stop {s : State} {a : Word} (v : Byte) (h : ¬ Accessible s a) :
    memWrite a v s = accessStop a .write s := by
  simp only [Accessible] at h
  simp only [memWrite, accessStop, raise]
  split <;> simp_all

/-- The stop of an access is never a next state. -/
theorem accessStop_ne_next {α : Type} (a : Word) (d : Access) (s : State) (x : α) :
    (accessStop a d s : Result α) ≠ .next x := by
  simp only [accessStop]
  split <;> simp

/-- A read that goes on is of an accessible address. -/
theorem memRead_next {s : State} {a : Word} {p : Byte × State} (h : memRead a s = .next p) :
    Accessible s a ∧ p = (readValue a s, afterRead a s) := by
  by_cases ha : Accessible s a
  · rw [memRead_accessible ha] at h
    cases h
    exact ⟨ha, rfl⟩
  · rw [memRead_stop ha] at h
    exact absurd h (accessStop_ne_next _ _ _ _)

/-- A write that goes on is to an accessible address. -/
theorem memWrite_next {s t : State} {a : Word} {v : Byte} (h : memWrite a v s = .next t) :
    Accessible s a ∧ t = afterWrite a v s := by
  by_cases ha : Accessible s a
  · rw [memWrite_accessible v ha] at h
    cases h
    exact ⟨ha, rfl⟩
  · rw [memWrite_stop v ha] at h
    exact absurd h (accessStop_ne_next _ _ _ _)

/-- A read touches only the model's count of free bytes. -/
theorem afterRead_eq (a : Word) (s : State) : afterRead a s = { s with portReads := (afterRead a s).portReads } := by
  simp only [afterRead]
  split <;> rfl

/-- A read of an address that stores a byte changes nothing. -/
theorem afterRead_of_stored {s : State} {a : Word} (h : storedByte a s ≠ none) : afterRead a s = s := by
  simp only [storedByte] at h
  simp only [afterRead]
  split <;> simp_all

/-- A write touches only memory and the interrupt-flag register. -/
theorem afterWrite_eq (a : Word) (v : Byte) (s : State) :
    afterWrite a v s = { s with mem := (afterWrite a v s).mem, ioIf := (afterWrite a v s).ioIf } := by
  simp only [afterWrite]
  split <;> rfl

@[simp] theorem regs_afterRead (a : Word) (s : State) : (afterRead a s).regs = s.regs := by rw [afterRead_eq]
@[simp] theorem pc_afterRead (a : Word) (s : State) : (afterRead a s).pc = s.pc := by rw [afterRead_eq]
@[simp] theorem sp_afterRead (a : Word) (s : State) : (afterRead a s).sp = s.sp := by rw [afterRead_eq]
@[simp] theorem halted_afterRead (a : Word) (s : State) : (afterRead a s).halted = s.halted := by rw [afterRead_eq]
@[simp] theorem ime_afterRead (a : Word) (s : State) : (afterRead a s).ime = s.ime := by rw [afterRead_eq]
@[simp] theorem diPending_afterRead (a : Word) (s : State) : (afterRead a s).diPending = s.diPending := by rw [afterRead_eq]
@[simp] theorem eiPending_afterRead (a : Word) (s : State) : (afterRead a s).eiPending = s.eiPending := by rw [afterRead_eq]
@[simp] theorem fault_afterRead (a : Word) (s : State) : (afterRead a s).fault = s.fault := by rw [afterRead_eq]
@[simp] theorem cycles_afterRead (a : Word) (s : State) : (afterRead a s).cycles = s.cycles := by rw [afterRead_eq]
@[simp] theorem mem_afterRead (a : Word) (s : State) : (afterRead a s).mem = s.mem := by rw [afterRead_eq]
@[simp] theorem ioIf_afterRead (a : Word) (s : State) : (afterRead a s).ioIf = s.ioIf := by rw [afterRead_eq]
@[simp] theorem romLength_afterRead (a : Word) (s : State) : (afterRead a s).romLength = s.romLength := by rw [afterRead_eq]
@[simp] theorem romTail_afterRead (a : Word) (s : State) : (afterRead a s).romTail = s.romTail := by rw [afterRead_eq]

@[simp] theorem regs_afterWrite (a : Word) (v : Byte) (s : State) : (afterWrite a v s).regs = s.regs := by
  rw [afterWrite_eq]
@[simp] theorem pc_afterWrite (a : Word) (v : Byte) (s : State) : (afterWrite a v s).pc = s.pc := by rw [afterWrite_eq]
@[simp] theorem sp_afterWrite (a : Word) (v : Byte) (s : State) : (afterWrite a v s).sp = s.sp := by rw [afterWrite_eq]
@[simp] theorem halted_afterWrite (a : Word) (v : Byte) (s : State) : (afterWrite a v s).halted = s.halted := by
  rw [afterWrite_eq]
@[simp] theorem ime_afterWrite (a : Word) (v : Byte) (s : State) : (afterWrite a v s).ime = s.ime := by rw [afterWrite_eq]
@[simp] theorem diPending_afterWrite (a : Word) (v : Byte) (s : State) : (afterWrite a v s).diPending = s.diPending := by
  rw [afterWrite_eq]
@[simp] theorem eiPending_afterWrite (a : Word) (v : Byte) (s : State) : (afterWrite a v s).eiPending = s.eiPending := by
  rw [afterWrite_eq]
@[simp] theorem fault_afterWrite (a : Word) (v : Byte) (s : State) : (afterWrite a v s).fault = s.fault := by
  rw [afterWrite_eq]
@[simp] theorem cycles_afterWrite (a : Word) (v : Byte) (s : State) : (afterWrite a v s).cycles = s.cycles := by
  rw [afterWrite_eq]
@[simp] theorem romLength_afterWrite (a : Word) (v : Byte) (s : State) : (afterWrite a v s).romLength = s.romLength := by
  rw [afterWrite_eq]
@[simp] theorem romTail_afterWrite (a : Word) (v : Byte) (s : State) : (afterWrite a v s).romTail = s.romTail := by
  rw [afterWrite_eq]
@[simp] theorem portReads_afterWrite (a : Word) (v : Byte) (s : State) : (afterWrite a v s).portReads = s.portReads := by
  rw [afterWrite_eq]

/-- The stored byte of an address depends on memory, the interrupt-flag register and the image length alone. -/
theorem storedByte_congr {s t : State} (a : Word) (hm : t.mem = s.mem) (hi : t.ioIf = s.ioIf)
    (hr : t.romLength = s.romLength) : storedByte a t = storedByte a s := by
  simp only [storedByte, hm, hi, hr]

/-- The byte written is the byte stored (20_memory.md R51). -/
theorem storedByte_afterWrite_same {s : State} {a : Word} (v : Byte) (hm : s.mem.wf = true) (h : storedByte a s ≠ none) :
    storedByte a (afterWrite a v s) = some v := by
  rw [storedByte, romLength_afterWrite]
  cases hp : placeOf s.romLength a <;> simp_all [storedByte, afterWrite, Memory.get_set_same]

/-- A write leaves every address that reaches another byte as it was (20_memory.md R51). -/
theorem storedByte_afterWrite_other {s : State} {a b : Word} (v : Byte) (hm : s.mem.wf = true)
    (h : placeOf s.romLength b ≠ placeOf s.romLength a) : storedByte b (afterWrite a v s) = storedByte b s := by
  rw [storedByte, storedByte, romLength_afterWrite]
  cases hb : placeOf s.romLength b <;> simp only [afterWrite]
  · rename_i j
    split
    · rename_i k hk
      have hjk : j ≠ k := fun e => h (by rw [hb, hk, e])
      simp [Memory.get_set_other _ _ _ _ hm hjk]
    · rfl
    · rfl
  · split
    · rfl
    · rename_i hk
      exact absurd (hb.trans hk.symm) h
    · rfl

/-! ## Memory stays canonical -/

/-- What `MemoryOk` speaks of. -/
theorem MemoryOk_congr {s t : State} (h : MemoryOk s) (hm : t.mem = s.mem) (hr : t.romLength = s.romLength)
    (ht : t.romTail = s.romTail) : MemoryOk t := by
  simp only [MemoryOk, hm, hr, ht]
  exact h

theorem MemoryOk_afterRead {s : State} (a : Word) (h : MemoryOk s) : MemoryOk (afterRead a s) :=
  MemoryOk_congr h (by simp) (by simp) (by simp)

theorem MemoryOk_afterWrite {s : State} (a : Word) (v : Byte) (h : MemoryOk s) : MemoryOk (afterWrite a v s) := by
  obtain ⟨h1, h2, h3⟩ := h
  simp only [afterWrite]
  split
  · rename_i k hk
    obtain ⟨ho, hr⟩ := placeOf_cell hk
    refine ⟨Memory.wf_set _ _ _ h1 ho, ?_, h3⟩
    intro c hc hlt
    rcases Memory.mem_set _ _ _ _ hc with hc | rfl
    · exact h2 c hc hlt
    · exact hr hlt
  · exact ⟨h1, h2, h3⟩
  · exact ⟨h1, h2, h3⟩

/-! ## Two-byte accesses and the stack -/

/-- An access is accessible or not whatever the registers and the stored bytes are. -/
theorem accessible_afterRead {s : State} {a b : Word} : Accessible (afterRead b s) a ↔ Accessible s a := by
  simp [Accessible]

theorem accessible_afterWrite {s : State} {a b : Word} {v : Byte} :
    Accessible (afterWrite b v s) a ↔ Accessible s a := by
  simp [Accessible]

/-- A two-byte read that goes on (20_memory.md R52). -/
theorem memRead2_next {s : State} {a : Word} {p : Word × State} (h : memRead2 a s = .next p) :
    Accessible2 s a ∧ p = (readValue2 a s, afterRead2 a s) := by
  obtain ⟨x, hx, h⟩ := andThen_next h
  obtain ⟨y, hy, h⟩ := andThen_next h
  obtain ⟨hx1, rfl⟩ := memRead_next hx
  obtain ⟨hy1, rfl⟩ := memRead_next hy
  cases h
  exact ⟨⟨hx1, accessible_afterRead.1 hy1⟩, rfl⟩

/-- A two-byte write that goes on (20_memory.md R53). -/
theorem memWrite2_next {s t : State} {a v : Word} (h : memWrite2 a v s = .next t) :
    Accessible2 s a ∧ t = afterWrite2 a v s := by
  obtain ⟨x, hx, h⟩ := andThen_next h
  obtain ⟨hx1, rfl⟩ := memWrite_next hx
  obtain ⟨hy1, rfl⟩ := memWrite_next h
  exact ⟨⟨hx1, accessible_afterWrite.1 hy1⟩, rfl⟩

/-- A push that goes on (44_load16_stack.md R246). -/
theorem push16_next {s t : State} {v : Word} (h : push16 v s = .next t) :
    Accessible2 s (s.sp - 2) ∧ t = afterWrite2 (s.sp - 2) v { s with sp := s.sp - 2 } :=
  memWrite2_next h

/-- A pop that goes on (44_load16_stack.md R247). -/
theorem pop16_next {s : State} {p : Word × State} (h : pop16 s = .next p) :
    Accessible2 s s.sp ∧ p = (readValue2 s.sp s, { afterRead2 s.sp s with sp := s.sp + 2 }) := by
  obtain ⟨x, hx, h⟩ := andThen_next h
  obtain ⟨hx1, rfl⟩ := memRead2_next hx
  cases h
  exact ⟨hx1, by simp [afterRead2]⟩

/-- The return of `RETI` that goes on (45_control.md R274). -/
theorem returnFromInterrupt_next {s t : State} (h : returnFromInterrupt s = .next t) :
    Accessible2 s s.sp ∧
      t = { afterRead2 s.sp s with sp := s.sp + 2, pc := readValue2 s.sp s, ime := true } := by
  obtain ⟨x, hx, h⟩ := andThen_next h
  obtain ⟨hx1, rfl⟩ := pop16_next hx
  cases h
  exact ⟨hx1, rfl⟩

/-! ## Fetch and step -/

/-- A fetch that goes on moves `PC` past the byte and nothing else but the count of free bytes (30_encoding.md R82). -/
theorem fetch8_next {s : State} {p : Byte × State} (h : fetch8 s = .next p) :
    Accessible s s.pc ∧ p = (readValue s.pc s, { afterRead s.pc s with pc := s.pc + 1 }) := by
  obtain ⟨x, hx, h⟩ := andThen_next h
  obtain ⟨hx1, rfl⟩ := memRead_next hx
  cases h
  exact ⟨hx1, by simp⟩

/-- Fetching moves `PC` and the count of free bytes alone. -/
theorem fetchBytes_frame {n : Nat} {s : State} {p : List Byte × State} (h : fetchBytes n s = .next p) :
    p.2 = { s with pc := s.pc + BitVec.ofNat 16 n, portReads := p.2.portReads } ∧ p.1.length = n := by
  induction n generalizing s p with
  | zero =>
    cases h
    simp
  | succ k ih =>
    obtain ⟨x, hx, h⟩ := andThen_next h
    obtain ⟨y, hy, h⟩ := andThen_next h
    obtain ⟨_, rfl⟩ := fetch8_next hx
    obtain ⟨h1, h2⟩ := ih hy
    cases h
    constructor
    · rw [h1, afterRead_eq]
      simp only [State.mk.injEq, true_and, and_true]
      rw [BitVec.add_assoc]
      congr 1
      apply BitVec.eq_of_toNat_eq
      simp [BitVec.toNat_add, BitVec.toNat_ofNat, Nat.add_comm]
    · simp [h2]

/-- Only `STOP` is longer than what its step fetches first, and only before a zero byte (30_encoding.md R95). -/
theorem lengthOf_of_not_stop {op : Byte} (tail : List Byte) (h : formatOf op ≠ .stop) :
    lengthOf op tail = fetchLength op := by simp [lengthOf, h]

/-- A fetched instruction comes from decoding the bytes at `PC`, and only `PC` and the count of free bytes move. -/
theorem fetchInstr_next {s : State} {p : Instr × State} (h : fetchInstr s = .next p) :
    ∃ op tail s1 rest, fetch8 s = .next (op, s1) ∧ fetchBytes (fetchLength op - 1) s1 = .next (tail, p.2) ∧
      decode (op :: tail) = .ok (p.1, rest) ∧
      p.2 = { s with pc := s.pc + 1 + BitVec.ofNat 16 (fetchLength op - 1), portReads := p.2.portReads } := by
  obtain ⟨x, hx, h⟩ := andThen_next h
  obtain ⟨y, hy, h⟩ := andThen_next h
  obtain ⟨_, rfl⟩ := fetch8_next hx
  have hf := (fetchBytes_frame hy).1
  dsimp only at h
  split at h
  · rename_i d hd
    cases h
    refine ⟨_, _, _, d.2, hx, hy, hd, ?_⟩
    rw [hf, afterRead_eq]
  · cases h

/-- What a step can do: nothing in the Halted state, else fetch, execute and tick the timers (30_encoding.md R80). -/
theorem runStep_next {ex : Instr → State → Result State} {s t : State} (h : runStep ex s = .next t) :
    s.fault = none ∧ ((s.halted = true ∧ t = s) ∨
      (s.halted = false ∧ ∃ i s1 u, fetchInstr s = .next (i, s1) ∧ ex i s1 = .next u ∧ t = tickTimers u)) := by
  simp only [runStep] at h
  split at h
  · cases h
  · rename_i hf
    refine ⟨hf, ?_⟩
    split at h
    · rename_i hh
      cases h
      exact .inl ⟨hh, rfl⟩
    · rename_i hh
      obtain ⟨p, hp, h⟩ := andThen_next h
      obtain ⟨u, hu, h⟩ := andThen_next h
      cases h
      exact .inr ⟨by simpa using hh, p.1, p.2, u, hp, hu, rfl⟩

/-! ## The timers -/

@[simp] theorem regs_tickTimers (s : State) : (tickTimers s).regs = s.regs := by
  simp only [tickTimers, tickEnable, tickDisable]
  repeat' split
  all_goals rfl

@[simp] theorem pc_tickTimers (s : State) : (tickTimers s).pc = s.pc := by
  simp only [tickTimers, tickEnable, tickDisable]
  repeat' split
  all_goals rfl

@[simp] theorem sp_tickTimers (s : State) : (tickTimers s).sp = s.sp := by
  simp only [tickTimers, tickEnable, tickDisable]
  repeat' split
  all_goals rfl

@[simp] theorem halted_tickTimers (s : State) : (tickTimers s).halted = s.halted := by
  simp only [tickTimers, tickEnable, tickDisable]
  repeat' split
  all_goals rfl

@[simp] theorem fault_tickTimers (s : State) : (tickTimers s).fault = s.fault := by
  simp only [tickTimers, tickEnable, tickDisable]
  repeat' split
  all_goals rfl

@[simp] theorem cycles_tickTimers (s : State) : (tickTimers s).cycles = s.cycles := by
  simp only [tickTimers, tickEnable, tickDisable]
  repeat' split
  all_goals rfl

@[simp] theorem mem_tickTimers (s : State) : (tickTimers s).mem = s.mem := by
  simp only [tickTimers, tickEnable, tickDisable]
  repeat' split
  all_goals rfl

@[simp] theorem ioIf_tickTimers (s : State) : (tickTimers s).ioIf = s.ioIf := by
  simp only [tickTimers, tickEnable, tickDisable]
  repeat' split
  all_goals rfl

@[simp] theorem romLength_tickTimers (s : State) : (tickTimers s).romLength = s.romLength := by
  simp only [tickTimers, tickEnable, tickDisable]
  repeat' split
  all_goals rfl

@[simp] theorem romTail_tickTimers (s : State) : (tickTimers s).romTail = s.romTail := by
  simp only [tickTimers, tickEnable, tickDisable]
  repeat' split
  all_goals rfl

end Sys2Proof.Machine
end

