-- ==== Sys2Proof/Laws/Exec.lean ====
section
/-! SUPPORT. The 512 arms of `exec` seen through the 61 forms, and the field view of a row both ways. -/

namespace Sys2Proof.Machine

/-- The shared operation of each form. -/
def execForm (f : Form) (s : State) : Result State :=
  match f with
  | .nop => doNop s
  | .ldPairImm rr nn => doLdPairImm rr nn s
  | .ldPtrA p => doLdPtrA p s
  | .incPair rr => doIncPair rr s
  | .incReg r => doIncReg r s
  | .decReg r => doDecReg r s
  | .ldRegImm dst n => doLdRegImm dst n s
  | .accRot op => doAccRot op s
  | .ldAbsSp nn => doLdAbsSp nn s
  | .addHl rr => doAddHl rr s
  | .ldAPtr p => doLdAPtr p s
  | .decPair rr => doDecPair rr s
  | .stop => doStop s
  | .jr e => doJr e s
  | .jrCc cc e => doJrCc cc e s
  | .daa => doDaa s
  | .cpl => doCpl s
  | .incMem => doIncMem s
  | .decMem => doDecMem s
  | .ldMemImm n => doLdMemImm n s
  | .scf => doScf s
  | .ccf => doCcf s
  | .ldRegReg dst src => doLdRegReg dst src s
  | .ldRegMem dst => doLdRegMem dst s
  | .ldMemReg r => doLdMemReg r s
  | .halt => doHalt s
  | .aluReg op r => doAluReg op r s
  | .aluMem op => doAluMem op s
  | .retCc cc => doRetCc cc s
  | .pop q => doPop q s
  | .jpCc cc nn => doJpCc cc nn s
  | .jp nn => doJp nn s
  | .callCc cc nn => doCallCc cc nn s
  | .push q => doPush q s
  | .aluImm op n => doAluImm op n s
  | .rst t => doRst t s
  | .ret => doRet s
  | .prefixCb => doPrefixCb s
  | .call nn => doCall nn s
  | .undefined u => doUndefinedOp u s
  | .reti => doReti s
  | .ldPortA n => doLdPortA n s
  | .ldPortCA => doLdPortCA s
  | .addSpE e => doAddSpE e s
  | .jpHl => doJpHl s
  | .ldAbsA nn => doLdAbsA nn s
  | .ldAPort n => doLdAPort n s
  | .ldAPortC => doLdAPortC s
  | .di => doDi s
  | .ldHlSpE e => doLdHlSpE e s
  | .ldSpHl => doLdSpHl s
  | .ldAAbs nn => doLdAAbs nn s
  | .ei => doEi s
  | .rotReg op r => doRotReg op r s
  | .rotMem op => doRotMem op s
  | .bitReg b r => doBitReg b r s
  | .bitMem b => doBitMem b s
  | .resReg b r => doResReg b r s
  | .resMem b => doResMem b s
  | .setReg b r => doSetReg b r s
  | .setMem b => doSetMem b s

/-- Every arm of `exec` is the shared operation of its row's form. -/
theorem exec_eq_execForm (i : Instr) (s : State) : exec i s = execForm i.form s := by cases i <;> rfl

/-- The form of the row of a form is that form. -/
theorem form_instr (f : Form) : f.instr.form = f := by
  cases f
  case nop => rfl
  case ldPairImm rr nn => cases rr <;> rfl
  case ldPtrA p => cases p <;> rfl
  case incPair rr => cases rr <;> rfl
  case incReg r => cases r <;> rfl
  case decReg r => cases r <;> rfl
  case ldRegImm dst n => cases dst <;> rfl
  case accRot op => cases op <;> rfl
  case ldAbsSp nn => rfl
  case addHl rr => cases rr <;> rfl
  case ldAPtr p => cases p <;> rfl
  case decPair rr => cases rr <;> rfl
  case stop => rfl
  case jr e => rfl
  case jrCc cc e => cases cc <;> rfl
  case daa => rfl
  case cpl => rfl
  case incMem => rfl
  case decMem => rfl
  case ldMemImm n => rfl
  case scf => rfl
  case ccf => rfl
  case ldRegReg dst src => cases dst <;> cases src <;> rfl
  case ldRegMem dst => cases dst <;> rfl
  case ldMemReg r => cases r <;> rfl
  case halt => rfl
  case aluReg op r => cases op <;> cases r <;> rfl
  case aluMem op => cases op <;> rfl
  case retCc cc => cases cc <;> rfl
  case pop q => cases q <;> rfl
  case jpCc cc nn => cases cc <;> rfl
  case jp nn => rfl
  case callCc cc nn => cases cc <;> rfl
  case push q => cases q <;> rfl
  case aluImm op n => cases op <;> rfl
  case rst t => cases t <;> rfl
  case ret => rfl
  case prefixCb => rfl
  case call nn => rfl
  case undefined u => cases u <;> rfl
  case reti => rfl
  case ldPortA n => rfl
  case ldPortCA => rfl
  case addSpE e => rfl
  case jpHl => rfl
  case ldAbsA nn => rfl
  case ldAPort n => rfl
  case ldAPortC => rfl
  case di => rfl
  case ldHlSpE e => rfl
  case ldSpHl => rfl
  case ldAAbs nn => rfl
  case ei => rfl
  case rotReg op r => cases op <;> cases r <;> rfl
  case rotMem op => cases op <;> rfl
  case bitReg b r => cases b <;> cases r <;> rfl
  case bitMem b => cases b <;> rfl
  case resReg b r => cases b <;> cases r <;> rfl
  case resMem b => cases b <;> rfl
  case setReg b r => cases b <;> cases r <;> rfl
  case setMem b => cases b <;> rfl

/-- Executing the row of a form is the form's shared operation. -/
theorem exec_instr (f : Form) (s : State) : exec f.instr s = execForm f s := by
  rw [exec_eq_execForm, form_instr]

/-- The row of the form of a row is that row. -/
theorem instr_form (i : Instr) : i.form.instr = i := by cases i <;> rfl

/-- A row that is neither the prefix nor undefined, by its form. -/
theorem isPrefixRow_eq (i : Instr) : isPrefixRow i = decide (i.form = .prefixCb) := by cases i <;> rfl

/-- What a step can do, with the meaning of instructions filled in (30_encoding.md R80). -/
theorem step_next {s t : State} (h : step s = .next t) :
    s.fault = none ∧ ((s.halted = true ∧ t = s) ∨
      (s.halted = false ∧ ∃ i s1 u, fetchInstr s = .next (i, s1) ∧ exec i s1 = .next u ∧ t = tickTimers u)) :=
  runStep_next h

end Sys2Proof.Machine
end

