-- ==== Sys2Proof/Tests/Slice0.lean ====
section
/-! SUPPORT. The model's own tests: ill-formed rows refused, words of the opcode table decoded, single steps against the
spec's Example lines and 95_test_vectors.md, and a witness for the hypotheses of each statement. -/

namespace Sys2Proof.Tests

open Sys2Proof Sys2Proof.Machine

/-! ## WellFormed -/

theorem test_wellFormed_refuses_prefix : WellFormed .prefix_CB = false := by decide

theorem test_wellFormed_refuses_undefined :
    [Instr.undefined_D3, .undefined_DB, .undefined_DD, .undefined_E3, .undefined_E4, .undefined_EB, .undefined_EC,
      .undefined_ED, .undefined_F4, .undefined_FC, .undefined_FD].all (fun i => !WellFormed i) = true := by decide

theorem test_wellFormed_accepts :
    [Instr.nop, .ld_B_n 0xFF, .jp_nn 0xFFFF, .stop, .halt, .set_7_at_HL, .rlc_B, .reti].all WellFormed = true := by decide

/-! ## Every row's word (numbered as the opcode table numbers it, the first byte lowest), from its Encoding line -/

/-- The word decodes to the row. -/
def decodesTo (p : Nat × Nat × Instr) : Bool := decide (decodeTableWord p.1 p.2.1 = some p.2.2)

def wordsLoad81 : List (Nat × Nat × Instr) :=
  [(8, 0x40, Instr.ld_B_B), (8, 0x41, Instr.ld_B_C), (8, 0x42, Instr.ld_B_D), (8, 0x43, Instr.ld_B_E)] ++
  [(8, 0x44, Instr.ld_B_H), (8, 0x45, Instr.ld_B_L), (8, 0x47, Instr.ld_B_A), (8, 0x48, Instr.ld_C_B)] ++
  [(8, 0x49, Instr.ld_C_C), (8, 0x4A, Instr.ld_C_D), (8, 0x4B, Instr.ld_C_E), (8, 0x4C, Instr.ld_C_H)] ++
  [(8, 0x4D, Instr.ld_C_L), (8, 0x4F, Instr.ld_C_A), (8, 0x50, Instr.ld_D_B), (8, 0x51, Instr.ld_D_C)] ++
  [(8, 0x52, Instr.ld_D_D), (8, 0x53, Instr.ld_D_E), (8, 0x54, Instr.ld_D_H), (8, 0x55, Instr.ld_D_L)] ++
  [(8, 0x57, Instr.ld_D_A), (8, 0x58, Instr.ld_E_B), (8, 0x59, Instr.ld_E_C), (8, 0x5A, Instr.ld_E_D)] ++
  [(8, 0x5B, Instr.ld_E_E), (8, 0x5C, Instr.ld_E_H), (8, 0x5D, Instr.ld_E_L), (8, 0x5F, Instr.ld_E_A)] ++
  [(8, 0x60, Instr.ld_H_B), (8, 0x61, Instr.ld_H_C), (8, 0x62, Instr.ld_H_D), (8, 0x63, Instr.ld_H_E)] ++
  [(8, 0x64, Instr.ld_H_H), (8, 0x65, Instr.ld_H_L), (8, 0x67, Instr.ld_H_A), (8, 0x68, Instr.ld_L_B)] ++
  [(8, 0x69, Instr.ld_L_C), (8, 0x6A, Instr.ld_L_D), (8, 0x6B, Instr.ld_L_E), (8, 0x6C, Instr.ld_L_H)] ++
  [(8, 0x6D, Instr.ld_L_L), (8, 0x6F, Instr.ld_L_A), (8, 0x78, Instr.ld_A_B), (8, 0x79, Instr.ld_A_C)] ++
  [(8, 0x7A, Instr.ld_A_D), (8, 0x7B, Instr.ld_A_E), (8, 0x7C, Instr.ld_A_H), (8, 0x7D, Instr.ld_A_L)] ++
  [(8, 0x7F, Instr.ld_A_A), (16, 0xA506, Instr.ld_B_n 0xA5), (16, 0xA50E, Instr.ld_C_n 0xA5), (16, 0xA516, Instr.ld_D_n 0xA5)] ++
  [(16, 0xA51E, Instr.ld_E_n 0xA5), (16, 0xA526, Instr.ld_H_n 0xA5), (16, 0xA52E, Instr.ld_L_n 0xA5), (16, 0xA53E, Instr.ld_A_n 0xA5)]

theorem test_wordsLoad81 : wordsLoad81.all decodesTo = true := by decide

def wordsLoad82 : List (Nat × Nat × Instr) :=
  [(8, 0x46, Instr.ld_B_at_HL), (8, 0x4E, Instr.ld_C_at_HL), (8, 0x56, Instr.ld_D_at_HL), (8, 0x5E, Instr.ld_E_at_HL)] ++
  [(8, 0x66, Instr.ld_H_at_HL), (8, 0x6E, Instr.ld_L_at_HL), (8, 0x7E, Instr.ld_A_at_HL), (8, 0x70, Instr.ld_at_HL_B)] ++
  [(8, 0x71, Instr.ld_at_HL_C), (8, 0x72, Instr.ld_at_HL_D), (8, 0x73, Instr.ld_at_HL_E), (8, 0x74, Instr.ld_at_HL_H)] ++
  [(8, 0x75, Instr.ld_at_HL_L), (8, 0x77, Instr.ld_at_HL_A), (16, 0xA536, Instr.ld_at_HL_n 0xA5), (8, 0x0A, Instr.ld_A_at_BC)] ++
  [(8, 0x1A, Instr.ld_A_at_DE), (8, 0x2A, Instr.ld_A_at_HLplus), (8, 0x3A, Instr.ld_A_at_HLminus), (8, 0x02, Instr.ld_at_BC_A)] ++
  [(8, 0x12, Instr.ld_at_DE_A), (8, 0x22, Instr.ld_at_HLplus_A), (8, 0x32, Instr.ld_at_HLminus_A), (24, 0x3A5BFA, Instr.ld_A_at_nn 0x3A5B)] ++
  [(24, 0x3A5BEA, Instr.ld_at_nn_A 0x3A5B), (16, 0xA5F0, Instr.ldh_A_at_n 0xA5), (16, 0xA5E0, Instr.ldh_at_n_A 0xA5), (8, 0xF2, Instr.ld_A_at_C)] ++
  [(8, 0xE2, Instr.ld_at_C_A)]

theorem test_wordsLoad82 : wordsLoad82.all decodesTo = true := by decide

def wordsLoad161 : List (Nat × Nat × Instr) :=
  [(24, 0x3A5B01, Instr.ld_BC_nn 0x3A5B), (24, 0x3A5B11, Instr.ld_DE_nn 0x3A5B), (24, 0x3A5B21, Instr.ld_HL_nn 0x3A5B), (24, 0x3A5B31, Instr.ld_SP_nn 0x3A5B)] ++
  [(8, 0xF9, Instr.ld_SP_HL), (24, 0x3A5B08, Instr.ld_at_nn_SP 0x3A5B), (16, 0xA5F8, Instr.ld_HL_SPpluse 0xA5), (8, 0xC5, Instr.push_BC)] ++
  [(8, 0xD5, Instr.push_DE), (8, 0xE5, Instr.push_HL), (8, 0xF5, Instr.push_AF), (8, 0xC1, Instr.pop_BC)] ++
  [(8, 0xD1, Instr.pop_DE), (8, 0xE1, Instr.pop_HL), (8, 0xF1, Instr.pop_AF)]

theorem test_wordsLoad161 : wordsLoad161.all decodesTo = true := by decide

def wordsAlu81 : List (Nat × Nat × Instr) :=
  [(8, 0x80, Instr.add_A_B), (8, 0x81, Instr.add_A_C), (8, 0x82, Instr.add_A_D), (8, 0x83, Instr.add_A_E)] ++
  [(8, 0x84, Instr.add_A_H), (8, 0x85, Instr.add_A_L), (8, 0x87, Instr.add_A_A), (8, 0x88, Instr.adc_A_B)] ++
  [(8, 0x89, Instr.adc_A_C), (8, 0x8A, Instr.adc_A_D), (8, 0x8B, Instr.adc_A_E), (8, 0x8C, Instr.adc_A_H)] ++
  [(8, 0x8D, Instr.adc_A_L), (8, 0x8F, Instr.adc_A_A), (8, 0x90, Instr.sub_B), (8, 0x91, Instr.sub_C)] ++
  [(8, 0x92, Instr.sub_D), (8, 0x93, Instr.sub_E), (8, 0x94, Instr.sub_H), (8, 0x95, Instr.sub_L)] ++
  [(8, 0x97, Instr.sub_A), (8, 0x98, Instr.sbc_A_B), (8, 0x99, Instr.sbc_A_C), (8, 0x9A, Instr.sbc_A_D)] ++
  [(8, 0x9B, Instr.sbc_A_E), (8, 0x9C, Instr.sbc_A_H), (8, 0x9D, Instr.sbc_A_L), (8, 0x9F, Instr.sbc_A_A)] ++
  [(8, 0xA0, Instr.and_B), (8, 0xA1, Instr.and_C), (8, 0xA2, Instr.and_D), (8, 0xA3, Instr.and_E)] ++
  [(8, 0xA4, Instr.and_H), (8, 0xA5, Instr.and_L), (8, 0xA7, Instr.and_A), (8, 0xA8, Instr.xor_B)] ++
  [(8, 0xA9, Instr.xor_C), (8, 0xAA, Instr.xor_D), (8, 0xAB, Instr.xor_E), (8, 0xAC, Instr.xor_H)] ++
  [(8, 0xAD, Instr.xor_L), (8, 0xAF, Instr.xor_A), (8, 0xB0, Instr.or_B), (8, 0xB1, Instr.or_C)] ++
  [(8, 0xB2, Instr.or_D), (8, 0xB3, Instr.or_E), (8, 0xB4, Instr.or_H), (8, 0xB5, Instr.or_L)] ++
  [(8, 0xB7, Instr.or_A), (8, 0xB8, Instr.cp_B), (8, 0xB9, Instr.cp_C), (8, 0xBA, Instr.cp_D)] ++
  [(8, 0xBB, Instr.cp_E), (8, 0xBC, Instr.cp_H), (8, 0xBD, Instr.cp_L), (8, 0xBF, Instr.cp_A)]

theorem test_wordsAlu81 : wordsAlu81.all decodesTo = true := by decide

def wordsAlu82 : List (Nat × Nat × Instr) :=
  [(8, 0x86, Instr.add_A_at_HL), (8, 0x8E, Instr.adc_A_at_HL), (8, 0x96, Instr.sub_at_HL), (8, 0x9E, Instr.sbc_A_at_HL)] ++
  [(8, 0xA6, Instr.and_at_HL), (8, 0xAE, Instr.xor_at_HL), (8, 0xB6, Instr.or_at_HL), (8, 0xBE, Instr.cp_at_HL)] ++
  [(16, 0xA5C6, Instr.add_A_n 0xA5), (16, 0xA5CE, Instr.adc_A_n 0xA5), (16, 0xA5D6, Instr.sub_n 0xA5), (16, 0xA5DE, Instr.sbc_A_n 0xA5)] ++
  [(16, 0xA5E6, Instr.and_n 0xA5), (16, 0xA5EE, Instr.xor_n 0xA5), (16, 0xA5F6, Instr.or_n 0xA5), (16, 0xA5FE, Instr.cp_n 0xA5)] ++
  [(8, 0x04, Instr.inc_B), (8, 0x0C, Instr.inc_C), (8, 0x14, Instr.inc_D), (8, 0x1C, Instr.inc_E)] ++
  [(8, 0x24, Instr.inc_H), (8, 0x2C, Instr.inc_L), (8, 0x3C, Instr.inc_A), (8, 0x34, Instr.inc_at_HL)] ++
  [(8, 0x05, Instr.dec_B), (8, 0x0D, Instr.dec_C), (8, 0x15, Instr.dec_D), (8, 0x1D, Instr.dec_E)] ++
  [(8, 0x25, Instr.dec_H), (8, 0x2D, Instr.dec_L), (8, 0x3D, Instr.dec_A), (8, 0x35, Instr.dec_at_HL)] ++
  [(8, 0x27, Instr.daa), (8, 0x2F, Instr.cpl), (8, 0x37, Instr.scf), (8, 0x3F, Instr.ccf)]

theorem test_wordsAlu82 : wordsAlu82.all decodesTo = true := by decide

def wordsAlu161 : List (Nat × Nat × Instr) :=
  [(8, 0x09, Instr.add_HL_BC), (8, 0x19, Instr.add_HL_DE), (8, 0x29, Instr.add_HL_HL), (8, 0x39, Instr.add_HL_SP)] ++
  [(16, 0xA5E8, Instr.add_SP_e 0xA5), (8, 0x03, Instr.inc_BC), (8, 0x13, Instr.inc_DE), (8, 0x23, Instr.inc_HL)] ++
  [(8, 0x33, Instr.inc_SP), (8, 0x0B, Instr.dec_BC), (8, 0x1B, Instr.dec_DE), (8, 0x2B, Instr.dec_HL)] ++
  [(8, 0x3B, Instr.dec_SP)]

theorem test_wordsAlu161 : wordsAlu161.all decodesTo = true := by decide

def wordsRotateShift1 : List (Nat × Nat × Instr) :=
  [(8, 0x07, Instr.rlca), (8, 0x0F, Instr.rrca), (8, 0x17, Instr.rla), (8, 0x1F, Instr.rra)] ++
  [(16, 0x00CB, Instr.rlc_B), (16, 0x01CB, Instr.rlc_C), (16, 0x02CB, Instr.rlc_D), (16, 0x03CB, Instr.rlc_E)] ++
  [(16, 0x04CB, Instr.rlc_H), (16, 0x05CB, Instr.rlc_L), (16, 0x07CB, Instr.rlc_A), (16, 0x08CB, Instr.rrc_B)] ++
  [(16, 0x09CB, Instr.rrc_C), (16, 0x0ACB, Instr.rrc_D), (16, 0x0BCB, Instr.rrc_E), (16, 0x0CCB, Instr.rrc_H)] ++
  [(16, 0x0DCB, Instr.rrc_L), (16, 0x0FCB, Instr.rrc_A), (16, 0x10CB, Instr.rl_B), (16, 0x11CB, Instr.rl_C)] ++
  [(16, 0x12CB, Instr.rl_D), (16, 0x13CB, Instr.rl_E), (16, 0x14CB, Instr.rl_H), (16, 0x15CB, Instr.rl_L)] ++
  [(16, 0x17CB, Instr.rl_A), (16, 0x18CB, Instr.rr_B), (16, 0x19CB, Instr.rr_C), (16, 0x1ACB, Instr.rr_D)] ++
  [(16, 0x1BCB, Instr.rr_E), (16, 0x1CCB, Instr.rr_H), (16, 0x1DCB, Instr.rr_L), (16, 0x1FCB, Instr.rr_A)] ++
  [(16, 0x20CB, Instr.sla_B), (16, 0x21CB, Instr.sla_C), (16, 0x22CB, Instr.sla_D), (16, 0x23CB, Instr.sla_E)] ++
  [(16, 0x24CB, Instr.sla_H), (16, 0x25CB, Instr.sla_L), (16, 0x27CB, Instr.sla_A), (16, 0x28CB, Instr.sra_B)] ++
  [(16, 0x29CB, Instr.sra_C), (16, 0x2ACB, Instr.sra_D), (16, 0x2BCB, Instr.sra_E), (16, 0x2CCB, Instr.sra_H)] ++
  [(16, 0x2DCB, Instr.sra_L), (16, 0x2FCB, Instr.sra_A), (16, 0x30CB, Instr.swap_B), (16, 0x31CB, Instr.swap_C)] ++
  [(16, 0x32CB, Instr.swap_D), (16, 0x33CB, Instr.swap_E), (16, 0x34CB, Instr.swap_H), (16, 0x35CB, Instr.swap_L)] ++
  [(16, 0x37CB, Instr.swap_A), (16, 0x38CB, Instr.srl_B), (16, 0x39CB, Instr.srl_C), (16, 0x3ACB, Instr.srl_D)]

theorem test_wordsRotateShift1 : wordsRotateShift1.all decodesTo = true := by decide

def wordsRotateShift2 : List (Nat × Nat × Instr) :=
  [(16, 0x3BCB, Instr.srl_E), (16, 0x3CCB, Instr.srl_H), (16, 0x3DCB, Instr.srl_L), (16, 0x3FCB, Instr.srl_A)] ++
  [(16, 0x06CB, Instr.rlc_at_HL), (16, 0x0ECB, Instr.rrc_at_HL), (16, 0x16CB, Instr.rl_at_HL), (16, 0x1ECB, Instr.rr_at_HL)] ++
  [(16, 0x26CB, Instr.sla_at_HL), (16, 0x2ECB, Instr.sra_at_HL), (16, 0x36CB, Instr.swap_at_HL), (16, 0x3ECB, Instr.srl_at_HL)]

theorem test_wordsRotateShift2 : wordsRotateShift2.all decodesTo = true := by decide

def wordsBitOps1 : List (Nat × Nat × Instr) :=
  [(16, 0x40CB, Instr.bit_0_B), (16, 0x41CB, Instr.bit_0_C), (16, 0x42CB, Instr.bit_0_D), (16, 0x43CB, Instr.bit_0_E)] ++
  [(16, 0x44CB, Instr.bit_0_H), (16, 0x45CB, Instr.bit_0_L), (16, 0x47CB, Instr.bit_0_A), (16, 0x48CB, Instr.bit_1_B)] ++
  [(16, 0x49CB, Instr.bit_1_C), (16, 0x4ACB, Instr.bit_1_D), (16, 0x4BCB, Instr.bit_1_E), (16, 0x4CCB, Instr.bit_1_H)] ++
  [(16, 0x4DCB, Instr.bit_1_L), (16, 0x4FCB, Instr.bit_1_A), (16, 0x50CB, Instr.bit_2_B), (16, 0x51CB, Instr.bit_2_C)] ++
  [(16, 0x52CB, Instr.bit_2_D), (16, 0x53CB, Instr.bit_2_E), (16, 0x54CB, Instr.bit_2_H), (16, 0x55CB, Instr.bit_2_L)] ++
  [(16, 0x57CB, Instr.bit_2_A), (16, 0x58CB, Instr.bit_3_B), (16, 0x59CB, Instr.bit_3_C), (16, 0x5ACB, Instr.bit_3_D)] ++
  [(16, 0x5BCB, Instr.bit_3_E), (16, 0x5CCB, Instr.bit_3_H), (16, 0x5DCB, Instr.bit_3_L), (16, 0x5FCB, Instr.bit_3_A)] ++
  [(16, 0x60CB, Instr.bit_4_B), (16, 0x61CB, Instr.bit_4_C), (16, 0x62CB, Instr.bit_4_D), (16, 0x63CB, Instr.bit_4_E)] ++
  [(16, 0x64CB, Instr.bit_4_H), (16, 0x65CB, Instr.bit_4_L), (16, 0x67CB, Instr.bit_4_A), (16, 0x68CB, Instr.bit_5_B)] ++
  [(16, 0x69CB, Instr.bit_5_C), (16, 0x6ACB, Instr.bit_5_D), (16, 0x6BCB, Instr.bit_5_E), (16, 0x6CCB, Instr.bit_5_H)] ++
  [(16, 0x6DCB, Instr.bit_5_L), (16, 0x6FCB, Instr.bit_5_A), (16, 0x70CB, Instr.bit_6_B), (16, 0x71CB, Instr.bit_6_C)] ++
  [(16, 0x72CB, Instr.bit_6_D), (16, 0x73CB, Instr.bit_6_E), (16, 0x74CB, Instr.bit_6_H), (16, 0x75CB, Instr.bit_6_L)] ++
  [(16, 0x77CB, Instr.bit_6_A), (16, 0x78CB, Instr.bit_7_B), (16, 0x79CB, Instr.bit_7_C), (16, 0x7ACB, Instr.bit_7_D)] ++
  [(16, 0x7BCB, Instr.bit_7_E), (16, 0x7CCB, Instr.bit_7_H), (16, 0x7DCB, Instr.bit_7_L), (16, 0x7FCB, Instr.bit_7_A)]

theorem test_wordsBitOps1 : wordsBitOps1.all decodesTo = true := by decide

def wordsBitOps2 : List (Nat × Nat × Instr) :=
  [(16, 0x46CB, Instr.bit_0_at_HL), (16, 0x4ECB, Instr.bit_1_at_HL), (16, 0x56CB, Instr.bit_2_at_HL), (16, 0x5ECB, Instr.bit_3_at_HL)] ++
  [(16, 0x66CB, Instr.bit_4_at_HL), (16, 0x6ECB, Instr.bit_5_at_HL), (16, 0x76CB, Instr.bit_6_at_HL), (16, 0x7ECB, Instr.bit_7_at_HL)] ++
  [(16, 0x80CB, Instr.res_0_B), (16, 0x81CB, Instr.res_0_C), (16, 0x82CB, Instr.res_0_D), (16, 0x83CB, Instr.res_0_E)] ++
  [(16, 0x84CB, Instr.res_0_H), (16, 0x85CB, Instr.res_0_L), (16, 0x87CB, Instr.res_0_A), (16, 0x88CB, Instr.res_1_B)] ++
  [(16, 0x89CB, Instr.res_1_C), (16, 0x8ACB, Instr.res_1_D), (16, 0x8BCB, Instr.res_1_E), (16, 0x8CCB, Instr.res_1_H)] ++
  [(16, 0x8DCB, Instr.res_1_L), (16, 0x8FCB, Instr.res_1_A), (16, 0x90CB, Instr.res_2_B), (16, 0x91CB, Instr.res_2_C)] ++
  [(16, 0x92CB, Instr.res_2_D), (16, 0x93CB, Instr.res_2_E), (16, 0x94CB, Instr.res_2_H), (16, 0x95CB, Instr.res_2_L)] ++
  [(16, 0x97CB, Instr.res_2_A), (16, 0x98CB, Instr.res_3_B), (16, 0x99CB, Instr.res_3_C), (16, 0x9ACB, Instr.res_3_D)] ++
  [(16, 0x9BCB, Instr.res_3_E), (16, 0x9CCB, Instr.res_3_H), (16, 0x9DCB, Instr.res_3_L), (16, 0x9FCB, Instr.res_3_A)] ++
  [(16, 0xA0CB, Instr.res_4_B), (16, 0xA1CB, Instr.res_4_C), (16, 0xA2CB, Instr.res_4_D), (16, 0xA3CB, Instr.res_4_E)] ++
  [(16, 0xA4CB, Instr.res_4_H), (16, 0xA5CB, Instr.res_4_L), (16, 0xA7CB, Instr.res_4_A), (16, 0xA8CB, Instr.res_5_B)] ++
  [(16, 0xA9CB, Instr.res_5_C), (16, 0xAACB, Instr.res_5_D), (16, 0xABCB, Instr.res_5_E), (16, 0xACCB, Instr.res_5_H)] ++
  [(16, 0xADCB, Instr.res_5_L), (16, 0xAFCB, Instr.res_5_A), (16, 0xB0CB, Instr.res_6_B), (16, 0xB1CB, Instr.res_6_C)] ++
  [(16, 0xB2CB, Instr.res_6_D), (16, 0xB3CB, Instr.res_6_E), (16, 0xB4CB, Instr.res_6_H), (16, 0xB5CB, Instr.res_6_L)]

theorem test_wordsBitOps2 : wordsBitOps2.all decodesTo = true := by decide

def wordsBitOps3 : List (Nat × Nat × Instr) :=
  [(16, 0xB7CB, Instr.res_6_A), (16, 0xB8CB, Instr.res_7_B), (16, 0xB9CB, Instr.res_7_C), (16, 0xBACB, Instr.res_7_D)] ++
  [(16, 0xBBCB, Instr.res_7_E), (16, 0xBCCB, Instr.res_7_H), (16, 0xBDCB, Instr.res_7_L), (16, 0xBFCB, Instr.res_7_A)] ++
  [(16, 0x86CB, Instr.res_0_at_HL), (16, 0x8ECB, Instr.res_1_at_HL), (16, 0x96CB, Instr.res_2_at_HL), (16, 0x9ECB, Instr.res_3_at_HL)] ++
  [(16, 0xA6CB, Instr.res_4_at_HL), (16, 0xAECB, Instr.res_5_at_HL), (16, 0xB6CB, Instr.res_6_at_HL), (16, 0xBECB, Instr.res_7_at_HL)] ++
  [(16, 0xC0CB, Instr.set_0_B), (16, 0xC1CB, Instr.set_0_C), (16, 0xC2CB, Instr.set_0_D), (16, 0xC3CB, Instr.set_0_E)] ++
  [(16, 0xC4CB, Instr.set_0_H), (16, 0xC5CB, Instr.set_0_L), (16, 0xC7CB, Instr.set_0_A), (16, 0xC8CB, Instr.set_1_B)] ++
  [(16, 0xC9CB, Instr.set_1_C), (16, 0xCACB, Instr.set_1_D), (16, 0xCBCB, Instr.set_1_E), (16, 0xCCCB, Instr.set_1_H)] ++
  [(16, 0xCDCB, Instr.set_1_L), (16, 0xCFCB, Instr.set_1_A), (16, 0xD0CB, Instr.set_2_B), (16, 0xD1CB, Instr.set_2_C)] ++
  [(16, 0xD2CB, Instr.set_2_D), (16, 0xD3CB, Instr.set_2_E), (16, 0xD4CB, Instr.set_2_H), (16, 0xD5CB, Instr.set_2_L)] ++
  [(16, 0xD7CB, Instr.set_2_A), (16, 0xD8CB, Instr.set_3_B), (16, 0xD9CB, Instr.set_3_C), (16, 0xDACB, Instr.set_3_D)] ++
  [(16, 0xDBCB, Instr.set_3_E), (16, 0xDCCB, Instr.set_3_H), (16, 0xDDCB, Instr.set_3_L), (16, 0xDFCB, Instr.set_3_A)] ++
  [(16, 0xE0CB, Instr.set_4_B), (16, 0xE1CB, Instr.set_4_C), (16, 0xE2CB, Instr.set_4_D), (16, 0xE3CB, Instr.set_4_E)] ++
  [(16, 0xE4CB, Instr.set_4_H), (16, 0xE5CB, Instr.set_4_L), (16, 0xE7CB, Instr.set_4_A), (16, 0xE8CB, Instr.set_5_B)] ++
  [(16, 0xE9CB, Instr.set_5_C), (16, 0xEACB, Instr.set_5_D), (16, 0xEBCB, Instr.set_5_E), (16, 0xECCB, Instr.set_5_H)]

theorem test_wordsBitOps3 : wordsBitOps3.all decodesTo = true := by decide

def wordsBitOps4 : List (Nat × Nat × Instr) :=
  [(16, 0xEDCB, Instr.set_5_L), (16, 0xEFCB, Instr.set_5_A), (16, 0xF0CB, Instr.set_6_B), (16, 0xF1CB, Instr.set_6_C)] ++
  [(16, 0xF2CB, Instr.set_6_D), (16, 0xF3CB, Instr.set_6_E), (16, 0xF4CB, Instr.set_6_H), (16, 0xF5CB, Instr.set_6_L)] ++
  [(16, 0xF7CB, Instr.set_6_A), (16, 0xF8CB, Instr.set_7_B), (16, 0xF9CB, Instr.set_7_C), (16, 0xFACB, Instr.set_7_D)] ++
  [(16, 0xFBCB, Instr.set_7_E), (16, 0xFCCB, Instr.set_7_H), (16, 0xFDCB, Instr.set_7_L), (16, 0xFFCB, Instr.set_7_A)] ++
  [(16, 0xC6CB, Instr.set_0_at_HL), (16, 0xCECB, Instr.set_1_at_HL), (16, 0xD6CB, Instr.set_2_at_HL), (16, 0xDECB, Instr.set_3_at_HL)] ++
  [(16, 0xE6CB, Instr.set_4_at_HL), (16, 0xEECB, Instr.set_5_at_HL), (16, 0xF6CB, Instr.set_6_at_HL), (16, 0xFECB, Instr.set_7_at_HL)]

theorem test_wordsBitOps4 : wordsBitOps4.all decodesTo = true := by decide

def wordsControl1 : List (Nat × Nat × Instr) :=
  [(24, 0x3A5BC3, Instr.jp_nn 0x3A5B), (24, 0x3A5BC2, Instr.jp_NZ_nn 0x3A5B), (24, 0x3A5BCA, Instr.jp_Z_nn 0x3A5B), (24, 0x3A5BD2, Instr.jp_NC_nn 0x3A5B)] ++
  [(24, 0x3A5BDA, Instr.jp_C_nn 0x3A5B), (8, 0xE9, Instr.jp_HL), (16, 0xA518, Instr.jr_e 0xA5), (16, 0xA520, Instr.jr_NZ_e 0xA5)] ++
  [(16, 0xA528, Instr.jr_Z_e 0xA5), (16, 0xA530, Instr.jr_NC_e 0xA5), (16, 0xA538, Instr.jr_C_e 0xA5), (24, 0x3A5BCD, Instr.call_nn 0x3A5B)] ++
  [(24, 0x3A5BC4, Instr.call_NZ_nn 0x3A5B), (24, 0x3A5BCC, Instr.call_Z_nn 0x3A5B), (24, 0x3A5BD4, Instr.call_NC_nn 0x3A5B), (24, 0x3A5BDC, Instr.call_C_nn 0x3A5B)] ++
  [(8, 0xC9, Instr.ret), (8, 0xC0, Instr.ret_NZ), (8, 0xC8, Instr.ret_Z), (8, 0xD0, Instr.ret_NC)] ++
  [(8, 0xD8, Instr.ret_C), (8, 0xD9, Instr.reti), (8, 0xC7, Instr.rst_00), (8, 0xCF, Instr.rst_08)] ++
  [(8, 0xD7, Instr.rst_10), (8, 0xDF, Instr.rst_18), (8, 0xE7, Instr.rst_20), (8, 0xEF, Instr.rst_28)] ++
  [(8, 0xF7, Instr.rst_30), (8, 0xFF, Instr.rst_38)]

theorem test_wordsControl1 : wordsControl1.all decodesTo = true := by decide

def wordsSystem1 : List (Nat × Nat × Instr) :=
  [(8, 0x00, Instr.nop), (8, 0x76, Instr.halt), (8, 0x10, Instr.stop), (8, 0xF3, Instr.di)] ++
  [(8, 0xFB, Instr.ei), (8, 0xD3, Instr.undefined_D3), (8, 0xDB, Instr.undefined_DB), (8, 0xDD, Instr.undefined_DD)] ++
  [(8, 0xE3, Instr.undefined_E3), (8, 0xE4, Instr.undefined_E4), (8, 0xEB, Instr.undefined_EB), (8, 0xEC, Instr.undefined_EC)] ++
  [(8, 0xED, Instr.undefined_ED), (8, 0xF4, Instr.undefined_F4), (8, 0xFC, Instr.undefined_FC), (8, 0xFD, Instr.undefined_FD)]

theorem test_wordsSystem1 : wordsSystem1.all decodesTo = true := by decide


/-- The four words of the examples in 30_encoding.md and 95_test_vectors.md section 2.7: an immediate 0xD3 is data, and
0xCB 0xD3 is `SET 2,E`. -/
theorem test_decode_D3_as_data :
    decodesTo (16, 0xD33E, .ld_A_n 0xD3) = true ∧ decodesTo (16, 0xD3CB, .set_2_E) = true ∧
      decodesTo (24, 0x123421, .ld_HL_nn 0x1234) = true := by decide

/-- The short strings are refused by name. -/
theorem test_decode_refuses_short :
    (match decode [] with | .error e => decide (e = .noOpcode) | .ok _ => false) = true ∧
    (match decode [0xCB] with | .error e => decide (e = .noSecondByte) | .ok _ => false) = true ∧
    (match decode [0x21, 0x34] with | .error e => decide (e = .noImmediate) | .ok _ => false) = true := by decide

/-- 30_encoding.md R95: `STOP` is two bytes before 0x00 and one byte otherwise. -/
theorem test_decode_stop :
    (match decode [0x10, 0x00, 0x3C] with | .ok d => decide (d = (.stop, [0x3C])) | .error _ => false) = true ∧
    (match decode [0x10, 0x3C] with | .ok d => decide (d = (.stop, [0x3C])) | .error _ => false) = true ∧
    lengthOf 0x10 [0x00] = 2 ∧ lengthOf 0x10 [0x3C] = 1 := by decide

/-! ## Single steps -/

/-- The state after one step with the bytes at `PC`. -/
def ran (bytes : List Byte) (s : State) : Option State :=
  match step (pokeBytes s.pc bytes s) with
  | .next t => some t
  | .fault _ => none
  | .refused _ => none

/-- The fault of one step with the bytes at `PC`. -/
def faulted (bytes : List Byte) (s : State) : Option Fault :=
  match step (pokeBytes s.pc bytes s) with
  | .next _ => none
  | .fault f => some f
  | .refused _ => none

/-- The reset state with `A` and `F`. -/
def withAF (a f : Byte) : State := { State.reset with regs := { State.reset.regs with a := a, f := f } }

/-- The reset state with `HL`. -/
def withHL (v : Word) : State := State.reset.setPair .hl v

/-- The reset state with `SP` and `BC`. -/
def withSPBC (sp bc : Word) : State := { State.reset.setPair .bc bc with sp := sp }

/-- `A` and `F`. -/
def af (s : State) : Byte × Byte := (s.regs.a, s.regs.f)

/-- S2. -/
theorem test_nop : (ran [0x00] State.reset).map (fun t => (t.pc, t.cycles, t.regs)) =
    some (0x0101, 1, State.reset.regs) := by decide
/-- S3. -/
theorem test_ld_B_n : (ran [0x06, 0x42] State.reset).map (fun t => (t.regs.b, t.pc, t.cycles)) = some (0x42, 0x0102, 2) := by
  decide
/-- S4. -/
theorem test_inc_wraps : (ran [0x3C] (withAF 0xFF 0xF0)).map af = some (0x00, 0xB0) := by decide
/-- 2.2. -/
theorem test_dec_wraps : (ran [0x3D] (withAF 0x00 0x00)).map af = some (0xFF, 0x60) := by decide
/-- S5. -/
theorem test_add_A_A : (ran [0x87] (withAF 0x80 0x00)).map af = some (0x00, 0x90) := by decide
/-- 2.1. -/
theorem test_adc_uses_carry : (ran [0xCE, 0xFF] (withAF 0xFF 0x10)).map af = some (0xFF, 0x30) := by decide
/-- 2.1. -/
theorem test_sub : (ran [0xD6, 0x01] (withAF 0x10 0x00)).map af = some (0x0F, 0x60) := by decide
/-- 2.1. -/
theorem test_sbc_uses_carry : (ran [0xDE, 0xFF] (withAF 0x00 0x10)).map af = some (0x00, 0xF0) := by decide
/-- 2.1. -/
theorem test_cp_keeps_A : (ran [0xFE, 0x40] (withAF 0x3C 0x00)).map af = some (0x3C, 0x50) := by decide
/-- 2.1. -/
theorem test_and_clears_halfCarry : (ran [0xE6, 0x0F] (withAF 0x5A 0xF0)).map af = some (0x0A, 0x00) := by decide
/-- 2.1. -/
theorem test_xor_A : (ran [0xAF] (withAF 0x0F 0x10)).map af = some (0x00, 0x80) := by decide
/-- 2.1. -/
theorem test_or_B : (ran [0xB0] (withAF 0x00 0x70)).map af = some (0x00, 0x80) := by decide
/-- 2.2. -/
theorem test_daa_after_add : (ran [0x27] (withAF 0x9A 0x00)).map af = some (0x00, 0x90) := by decide
/-- 2.2. -/
theorem test_daa_after_sub : (ran [0x27] (withAF 0x9A 0x70)).map af = some (0x34, 0x50) := by decide
/-- 2.2. -/
theorem test_cpl : (ran [0x2F] (withAF 0x00 0x10)).map af = some (0xFF, 0x70) := by decide
/-- 2.2. -/
theorem test_scf : (ran [0x37] (withAF 0x00 0xF0)).map af = some (0x00, 0x90) := by decide
/-- 2.2. -/
theorem test_ccf : (ran [0x3F] (withAF 0x00 0xF0)).map af = some (0x00, 0x80) := by decide
/-- 2.3: `ADD SP,e` with `e` = 0xFF. -/
theorem test_add_SP_e : (ran [0xE8, 0xFF] (withSPBC 0x1000 0)).map (fun t => (t.sp, t.regs.f)) = some (0x0FFF, 0x10) := by
  decide
/-- 2.3. -/
theorem test_add_HL_BC : (ran [0x09] ((withHL 0xFFFF).setPair .bc 1)).map (fun t => (t.pair .hl, t.regs.f)) =
    some (0x0000, 0xB0) := by decide
/-- 2.3. -/
theorem test_inc_HL : (ran [0x23] (withHL 0xFFFF)).map (fun t => (t.pair .hl, t.regs.f)) = some (0x0000, 0x00) := by decide
/-- 2.4. -/
theorem test_rlca_clears_zero : (ran [0x07] (withAF 0x00 0x00)).map af = some (0x00, 0x00) := by decide
/-- 2.4. -/
theorem test_rla : (ran [0x17] (withAF 0x80 0x00)).map af = some (0x00, 0x10) := by decide
/-- 2.4. -/
theorem test_rl_A : (ran [0xCB, 0x17] (withAF 0x80 0x00)).map af = some (0x00, 0x90) := by decide
/-- 2.4: `SRA` of 0x80 keeps bit 7. -/
theorem test_sra_A : (ran [0xCB, 0x2F] (withAF 0x80 0x00)).map af = some (0xC0, 0x00) := by decide
/-- 2.4. -/
theorem test_bit_7_H : (ran [0xCB, 0x7C] (withHL 0x8000)).map (fun t => (t.regs.h, t.regs.f)) = some (0x80, 0x00) := by
  decide
/-- 2.4. -/
theorem test_res_0_at_HL : (ran [0xCB, 0x86] (pokeByte 0xC000 0x01 (withHL 0xC000))).map
    (fun t => (storedByte 0xC000 t, t.cycles)) = some (some 0x00, 4) := by decide
/-- 2.5. -/
theorem test_ld_H_L : (ran [0x65] (withHL 0x1234)).map (fun t => (t.pair .hl, t.cycles)) = some (0x3434, 1) := by decide
/-- 2.5: a store at 0xE005 is read at 0xC005. -/
theorem test_echo : (ran [0x70] ((withHL 0xE005).setPair .bc 0x7700)).map (fun t => storedByte 0xC005 t) =
    some (some 0x77) := by decide
/-- 2.5. -/
theorem test_ldh_stub : (ran [0xE0, 0x05] (withAF 0x55 0x00)).map (fun t => (t.pc, t.cycles, t.mem.length, t.ioIf)) =
    some (0x0102, 3, 2, 0) := by decide
/-- 2.5. -/
theorem test_ldh_unhandled : faulted [0xE0, 0x00] (withAF 0x55 0x00) = some (.unimplementedRegion 0xFF00 .write) := by
  decide
/-- 2.5. -/
theorem test_ld_at_nn_SP : (ran [0x08, 0x00, 0xC1] (withSPBC 0xFFF8 0)).map
    (fun t => (storedByte 0xC100 t, storedByte 0xC101 t, t.cycles)) = some (some 0xFF, some 0xF8, 5) := by decide
/-- 2.5: the stack wraps into the ROM. -/
theorem test_push_wraps : (ran [0xC5] (withSPBC 0x0001 0x1234)).map
    (fun t => (t.sp, storedByte 0xFFFF t, storedByte 0x0000 t)) = some (0xFFFF, some 0x12, some 0x34) := by decide
/-- 2.5. -/
theorem test_push_faults : faulted [0xC5] (withSPBC 0xC000 0x1234) = some (.unallocatedExternalRam 0xBFFE .write) := by
  decide
/-- 2.5. -/
theorem test_pop_AF : (ran [0xF1] (pokeBytes 0xFFFC [0x12, 0x3F] (withSPBC 0xFFFC 0))).map (fun t => (af t, t.sp)) =
    some ((0x12, 0x30), 0xFFFE) := by decide
/-- 2.5. -/
theorem test_ld_HL_SPpluse : (ran [0xF8, 0x08] (withSPBC 0xFFF8 0)).map (fun t => (t.pair .hl, t.regs.f)) =
    some (0x0000, 0xB0) := by decide
/-- 2.6. -/
theorem test_jr_back : (ran [0x18, 0x80] { State.reset with pc := 0xC800 }).map (·.pc) = some 0xC782 := by decide
/-- 2.6. -/
theorem test_call : (ran [0xCD, 0x34, 0x12] { State.reset with pc := 0x8000 }).map
    (fun t => (t.pc, t.sp, storedByte 0xFFFC t, storedByte 0xFFFD t)) = some (0x1234, 0xFFFC, some 0x80, some 0x03) := by
  decide
/-- 2.6. -/
theorem test_call_NZ_not_taken : (ran [0xC4, 0x34, 0x12] { withAF 0 0x80 with pc := 0x0200 }).map
    (fun t => (t.pc, t.sp, t.cycles)) = some (0x0203, 0xFFFE, 3) := by decide
/-- 2.6. -/
theorem test_ret_C : (ran [0xD8] (pokeBytes 0xFFFC [0x01, 0x50] { withAF 0 0x10 with sp := 0xFFFC })).map
    (fun t => (t.pc, t.sp, t.cycles)) = some (0x0150, 0xFFFE, 5) := by decide
/-- 2.6. -/
theorem test_rst_38 : (ran [0xFF] { State.reset with pc := 0x0150 }).map (fun t => (t.pc, storedByte 0xFFFD t)) =
    some (0x0038, some 0x51) := by decide
/-- 2.7. -/
theorem test_di : (ran [0xF3] State.reset).map (fun t => (t.ime, t.diPending)) = some (true, 1) := by decide
/-- 2.7: `EI` in the shadow of `DI`. -/
theorem test_ei_after_di : (ran [0xFB] { State.reset with diPending := 1 }).map (fun t => (t.ime, t.diPending, t.eiPending)) =
    some (false, 0, 1) := by decide
/-- 2.7, `DI; DI`: the second arms the timer again. -/
theorem test_di_after_di : (ran [0xF3] { State.reset with diPending := 1 }).map (fun t => (t.ime, t.diPending)) =
    some (true, 1) := by decide
/-- 2.7: `RETI` in the shadow of `DI`. -/
theorem test_reti_after_di : (ran [0xD9] (pokeBytes 0xD000 [0x02, 0x00] { State.reset with diPending := 1, sp := 0xD000 })).map
    (fun t => (t.pc, t.ime)) = some (0x0200, false) := by decide
/-- 2.7. -/
theorem test_stop_zero : (ran [0x10, 0x00] { State.reset with pc := 0x0200 }).map (fun t => (t.pc, t.halted)) =
    some (0x0202, true) := by decide
/-- 2.7. -/
theorem test_stop_nonzero : (ran [0x10, 0x3C] { State.reset with pc := 0x0200 }).map (fun t => (t.pc, t.halted)) =
    some (0x0201, false) := by decide
/-- S10. -/
theorem test_undefined : faulted [0xD3] State.reset = some (.unknownOpcode 0xD3 0x0100) := by decide
/-- 10_state.md R20: a Halted step changes nothing. -/
theorem test_halted_step : ran [] { State.reset with halted := true } = some { State.reset with halted := true } := by decide
/-- `withFetchWord` places the instruction that the next step runs. -/
theorem test_withFetchWord : (match step (State.reset.withFetchWord 24 0x123421) with
    | .next t => decide (t.pair .hl = 0x1234)
    | .fault _ => false
    | .refused _ => false) = true := by decide

/-! ## The cartridge, session and host port -/

/-- An image of 0x150 bytes with the header of S8 in it. -/
def headerImage : List Byte :=
  List.replicate 0x134 0 ++ [0x54, 0x45, 0x53, 0x54, 0x47, 0x41, 0x4D, 0x45] ++ List.replicate 20 0

/-- S8: the title is "TESTGAME" with no null left. -/
theorem test_header_title : (Header.parse headerImage).map (·.title) =
    some [0x54, 0x45, 0x53, 0x54, 0x47, 0x41, 0x4D, 0x45] := by decide +kernel
/-- S9: sixteen bytes give one line at offset 0. -/
theorem test_dump_one_line : (romDump [0x00, 0x41, 0x42, 0x7E, 0x7F, 0x20, 0, 0, 0, 0, 0, 0, 0, 0, 0, 0]).map
    (fun l => (l.offset, l.text)) =
    [(0, ['.', 'A', 'B', '~', '.', ' ', '.', '.', '.', '.', '.', '.', '.', '.', '.', '.'])] := by decide
/-- 60_exceptions.md R303: no step is taken on a faulted session. -/
theorem test_faulted_session : (match step { State.reset with fault := some (.unknownOpcode 0xD3 0x0100) } with
    | .refused x => decide (x = .faultedSession)
    | .fault _ => false
    | .next _ => false) = true := by decide

/-! ## Witnesses: the hypotheses of each statement hold of a concrete state and operands -/

/-- A running state whose pointers all lie in WRAM. -/
def base : State :=
  { State.reset with
    regs := { a := 0x12, b := 0xC0, c := 0x90, d := 0xC0, e := 0x20, h := 0xC0, l := 0x30, f := 0x90 }
    pc := 0xC100
    sp := 0xD000 }

/-- `base` with the bytes at `PC`. -/
def at0 (bytes : List Byte) : State := pokeBytes 0xC100 bytes base

theorem witness_DecodeOfEncodeIsTheInstruction :
    isPrefixRow .set_7_at_HL = false ∧ isPrefixRow .undefined_D3 = false := by decide

/-- The second and third: the two forms of `STOP`; the last: 0x10 at the end of the string. -/
theorem witness_EncodeOfDecodeIsTheBytes :
    (∃ i rest, decode [0x3E, 0x42, 0x99] = .ok (i, rest)) ∧ (∃ i rest, decode [0x10, 0x00, 0x99] = .ok (i, rest)) ∧
    (∃ i rest, decode [0x10, 0x99] = .ok (i, rest)) ∧ (∃ i rest, decode [0x10] = .ok (i, rest)) :=
  ⟨⟨_, _, rfl⟩, ⟨_, _, rfl⟩, ⟨_, _, rfl⟩, ⟨_, _, rfl⟩⟩

theorem witness_DecodeRejectsOnlyShortStrings :
    lengthOf 0x21 [0x34, 0x12] ≤ [0x34#8, 0x12].length + 1 ∧ [0x34#8].length + 1 < lengthOf 0x21 [0x34] ∧
    lengthOf 0x00 [] ≤ ([] : List Byte).length + 1 ∧ lengthOf 0x10 [0x00] ≤ [0x00#8].length + 1 ∧
    lengthOf 0x10 [0x01] ≤ [0x01#8].length + 1 ∧ lengthOf 0x10 [] ≤ ([] : List Byte).length + 1 ∧
    0x11#8 ≠ 0x10 ∧ 0x01#8 ≠ 0x00 := by decide

theorem witness_UndefinedOpcodesRaiseUnknownOpcode :
    (∃ s1, Running (at0 [0xD3]) ∧ fetch8 (at0 [0xD3]) = .next (0xD3, s1)) ∧
    step (at0 [0xFD]) = .fault (.unknownOpcode 0xFD 0xC100) := ⟨⟨_, by decide, rfl⟩, rfl⟩

theorem witness_StepRunsTheFetchedInstruction :
    (∃ s1 i, Running (at0 [0x21, 0x34, 0x12]) ∧
      fetchBytes (fetchLength 0x21) (at0 [0x21, 0x34, 0x12]) = .next ([0x21, 0x34, 0x12], s1) ∧
      decode [0x21, 0x34, 0x12] = .ok (i, [])) ∧
    (∃ s1, Running (at0 [0x10, 0x00]) ∧ fetchBytes (fetchLength 0x10) (at0 [0x10, 0x00]) = .next ([0x10], s1) ∧
      decode [0x10] = .ok (.stop, [])) ∧
    (∃ f, Running { base with pc := 0xA000 } ∧ fetch8 { base with pc := 0xA000 } = .fault f) ∧
    (∃ s1 f, Running (pokeByte 0x9FFF 0x3E { base with pc := 0x9FFF }) ∧
      fetch8 (pokeByte 0x9FFF 0x3E { base with pc := 0x9FFF }) = .next (0x3E, s1) ∧
      fetchBytes (fetchLength 0x3E - 1) s1 = .fault f) ∧
    (({ base with halted := true } : State).fault = none ∧ ({ base with halted := true } : State).halted = true) :=
  ⟨⟨_, _, by decide, rfl, rfl⟩, ⟨_, by decide, rfl, rfl⟩, ⟨_, by decide, rfl⟩, ⟨_, _, by decide, rfl, rfl⟩, by decide⟩

theorem witness_StepRunsTheInstructionStoredAtPc :
    (Running (at0 [0x21, 0x34, 0x12]) ∧ WellFormed (.ld_HL_nn 0x1234) = true ∧ Instr.ld_HL_nn 0x1234 ≠ .stop ∧
      ∀ k, k < (encode (.ld_HL_nn 0x1234)).length →
        storedByte ((at0 [0x21, 0x34, 0x12]).pc + BitVec.ofNat 16 k) (at0 [0x21, 0x34, 0x12]) =
          some ((encode (.ld_HL_nn 0x1234)).getD k 0)) ∧
    (Running (at0 [0x10]) ∧ storedByte (at0 [0x10]).pc (at0 [0x10]) = some 0x10) := by decide

theorem witness_AFaultEndsTheSession :
    step (at0 [0xD3]) = .fault (.unknownOpcode 0xD3 0xC100) ∧
    ({ base with fault := some (.unknownOpcode 0xD3 0xC100) } : State).fault = some (.unknownOpcode 0xD3 0xC100) :=
  ⟨rfl, rfl⟩

theorem witness_EveryStepKeepsTheInvariant :
    ∃ t, Inv (at0 [0xF5]) ∧ step (at0 [0xF5]) = .next t := ⟨_, by decide, rfl⟩

theorem witness_ResetRestoresPowerOnState : base.fault = none := rfl

theorem witness_ConstructionPlacesImageAndRam :
    (0 < [0x01#8].length ∧ 0 < 0x8000) ∧ (0 < [0x02#8].length ∧ 0 < 0x2000) ∧ (0 < [0x03#8].length ∧ 0 < 0x80) := by decide

/-- The bounds of every clause of the two statements, each at its first and its last address (20_memory.md R41). -/
theorem witness_ReadsFollowTheAddressDecode_WritesFollowTheAddressDecode :
    ((0x7FFF#16).toNat < 0x8000 ∧ (0x7FFF#16).toNat < base.romLength) ∧
    ((0x0100#16).toNat < 0x8000 ∧ ({ base with romLength := 0x100 } : State).romLength ≤ (0x0100#16).toNat) ∧
    (0x8000 ≤ (0x8000#16).toNat ∧ (0x9FFF#16).toNat < 0xA000) ∧ (0xA000 ≤ (0xA000#16).toNat ∧ (0xBFFF#16).toNat < 0xC000) ∧
    (0xC000 ≤ (0xC000#16).toNat ∧ (0xDFFF#16).toNat < 0xE000) ∧ (0xE000 ≤ (0xE000#16).toNat ∧ (0xFDFF#16).toNat < 0xFE00) ∧
    (0xFE00 ≤ (0xFE00#16).toNat ∧ (0xFEFF#16).toNat < 0xFF00) ∧
    (0xFF00 ≤ (0xFF04#16).toNat ∧ (0xFF04#16).toNat < 0xFF80 ∧ 0xFF04#16 ≠ 0xFF05 ∧ 0xFF04#16 ≠ 0xFF0F) ∧
    (0xFF80 ≤ (0xFF80#16).toNat ∧ 0xFF80 ≤ (0xFFFF#16).toNat) := by decide

/-- What the decode gives at those bounds (95_test_vectors.md section 2.8). -/
theorem test_placeOf_bounds :
    ([0x0000, 0x7FFF, 0x8000, 0x9FFF, 0xC000, 0xDFFF, 0xFF80, 0xFFFF].all fun (a : Word) =>
      decide (placeOf 0x8000 a = .cell a.toNat)) = true ∧
    placeOf 0x100 0x0100 = .beyondImage ∧ placeOf 0x100 0x00FF = .cell 0x00FF ∧
    placeOf 0x8000 0xA000 = .unallocated ∧ placeOf 0x8000 0xBFFF = .unallocated ∧
    placeOf 0x8000 0xE000 = .cell 0xC000 ∧ placeOf 0x8000 0xFDFF = .cell 0xDDFF ∧
    ([0xFE00, 0xFE9F, 0xFEA0, 0xFEFF, 0xFF00, 0xFF04, 0xFF08, 0xFF0E, 0xFF10, 0xFF7F].all fun (a : Word) =>
      decide (placeOf 0x8000 a = .unimplemented)) = true ∧
    ([0xFF05, 0xFF06, 0xFF07].all fun (a : Word) => decide (placeOf 0x8000 a = .timerPort)) = true ∧
    placeOf 0x8000 0xFF0F = .interruptFlag := by decide

theorem witness_AWriteIsReadBackAndChangesOneByte :
    MemoryOk (at0 [0x01]) ∧ storedByte 0xFF0F (at0 [0x01]) ≠ none ∧ storedByte 0xC000 (at0 [0x01]) ≠ none ∧
    placeOf (at0 [0x01]).romLength 0xC001 ≠ placeOf (at0 [0x01]).romLength 0xC000 := by decide

theorem witness_TheEchoNamesTheSameBytes :
    MemoryOk base ∧ 0xC000 ≤ (0xC000#16).toNat ∧ (0xDDFF#16).toNat < 0xDE00 ∧
    placeOf 0x8000 0xDDFF = .cell 0xDDFF ∧ placeOf 0x8000 0xFDFF = .cell 0xDDFF := by decide

/-- Both bytes stored, the first not, the second not. -/
theorem witness_WordsAreStoredHighByteFirst :
    Accessible2 base 0xFFFF ∧ ¬ Accessible base 0xBFFF ∧ (Accessible base 0x9FFF ∧ ¬ Accessible base (0x9FFF + 1)) ∧
    (MemoryOk base ∧ storedByte 0xC0FF base ≠ none ∧ storedByte (0xC0FF + 1) base ≠ none) := by decide

/-- `HL` in WRAM and in HRAM, and in each kind of hole: the hypotheses of every statement about an access through `HL`
(`LoadsAndStoresThroughHl`, `PostIncrementAndDecrementLoads`, `AluOnTheByteAtHl`, `IncrementAndDecrementOfAByte`,
`RotatesAndShiftsOfTheByteAtHl`, `BitTests`, `BitResetsAndSets`). -/
theorem witness_accessThroughHl :
    ([0x0000, 0x7FFF, 0x8000, 0x9FFF, 0xC000, 0xFDFF, 0xFF05, 0xFF0F, 0xFF80, 0xFFFF].all fun (a : Word) =>
      decide (Accessible (base.setPair .hl a) ((base.setPair .hl a).pair .hl))) = true ∧
    ([0xA000, 0xBFFF, 0xFE00, 0xFEFF, 0xFF00, 0xFF04, 0xFF10, 0xFF7F].all fun (a : Word) =>
      decide (¬ Accessible (base.setPair .hl a) ((base.setPair .hl a).pair .hl))) = true ∧
    ¬ Accessible { base.setPair .hl 0x0100 with romLength := 0x100 } 0x0100 := by decide

/-- The same for the five addresses of `AccumulatorLoads` and `AccumulatorStores`. -/
theorem witness_AccumulatorLoads_AccumulatorStores :
    Accessible base (base.pair .bc) ∧ Accessible base (base.pair .de) ∧ Accessible base 0xFFFF ∧
    Accessible base (0xFF00 + zext16 0x0F) ∧ Accessible base (0xFF00 + zext16 base.regs.c) ∧
    ¬ Accessible (base.setPair .bc 0xA000) ((base.setPair .bc 0xA000).pair .bc) ∧
    ¬ Accessible (base.setPair .de 0xFEFF) ((base.setPair .de 0xFEFF).pair .de) ∧ ¬ Accessible base 0xBFFF ∧
    ¬ Accessible base (0xFF00 + zext16 0x7F) ∧
    ¬ Accessible (base.setReg .c 0x00) (0xFF00 + zext16 (base.setReg .c 0x00).regs.c) := by decide

theorem witness_SixteenBitLoads :
    Accessible2 base 0xC100 ∧ ¬ Accessible base 0xA000 ∧ (Accessible base 0x9FFF ∧ ¬ Accessible base (0x9FFF + 1)) := by
  decide

/-- The stack in WRAM, below HRAM's first byte, and across the end of VRAM: `PushAndPop`, `CallsAndRestarts`, `Returns`. -/
theorem witness_PushAndPop_CallsAndRestarts_Returns :
    Accessible2 base (base.sp - 2) ∧ Accessible2 base base.sp ∧
    ¬ Accessible ({ base with sp := 0xFF81 } : State) (({ base with sp := 0xFF81 } : State).sp - 2) ∧
    ¬ Accessible ({ base with sp := 0xA000 } : State) ({ base with sp := 0xA000 } : State).sp ∧
    (Accessible ({ base with sp := 0xA001 } : State) (({ base with sp := 0xA001 } : State).sp - 2) ∧
      ¬ Accessible ({ base with sp := 0xA001 } : State) (({ base with sp := 0xA001 } : State).sp - 2 + 1)) ∧
    (Accessible ({ base with sp := 0x9FFF } : State) ({ base with sp := 0x9FFF } : State).sp ∧
      ¬ Accessible ({ base with sp := 0x9FFF } : State) (({ base with sp := 0x9FFF } : State).sp + 1)) ∧
    base.holds .z = true ∧ base.holds .nz = false := by decide

theorem witness_PopUndoesPush :
    MemoryOk base ∧ storedByte (base.sp - 2) base ≠ none ∧ storedByte (base.sp - 2 + 1) base ≠ none := by decide

/-- Both values of each condition: `Jumps`, `CallsAndRestarts`, `Returns` (30_encoding.md R87). -/
theorem witness_Jumps_conditions :
    (withAF 0 0x00).holds .nz = true ∧ (withAF 0 0x80).holds .nz = false ∧ (withAF 0 0x80).holds .z = true ∧
    (withAF 0 0x00).holds .z = false ∧ (withAF 0 0x00).holds .nc = true ∧ (withAF 0 0x10).holds .nc = false ∧
    (withAF 0 0x10).holds .c = true ∧ (withAF 0 0x00).holds .c = false := by decide

theorem witness_DecimalAdjustComplementAndCarryFlag :
    (withAF 0x9A 0x00).flagN = false ∧ (withAF 0x9A 0x70).flagN = true := by decide

/-- The byte after 0x10 at zero and at the value next to it, and what `exec` needs. -/
theorem witness_StopLooksAtTheNextByte :
    (Running (at0 [0x10, 0x00]) ∧ storedByte (at0 [0x10, 0x00]).pc (at0 [0x10, 0x00]) = some 0x10 ∧
      storedByte ((at0 [0x10, 0x00]).pc + 1) (at0 [0x10, 0x00]) = some 0x00) ∧
    (Running (at0 [0x10, 0x01]) ∧ storedByte (at0 [0x10, 0x01]).pc (at0 [0x10, 0x01]) = some 0x10 ∧
      storedByte ((at0 [0x10, 0x01]).pc + 1) (at0 [0x10, 0x01]) = some 0x01 ∧ 0x01#8 ≠ 0x00) ∧
    (Accessible (at0 [0x00]) (at0 [0x00]).pc ∧ readValue (at0 [0x00]).pc (at0 [0x00]) = 0) ∧
    (Accessible (at0 [0x3C]) (at0 [0x3C]).pc ∧ readValue (at0 [0x3C]).pc (at0 [0x3C]) ≠ 0) ∧
    ¬ Accessible { base with pc := 0xA000 } 0xA000 := by decide

theorem witness_PrefixRunsTheSecondaryEntry :
    Accessible (at0 [0xC0]) (at0 [0xC0]).pc ∧
    secondaryOperand (readValue (at0 [0xC0]).pc (at0 [0xC0])) ≠ none ∧
    Accessible (at0 [0xC6]) ((at0 [0xC6]).pair .hl) ∧ ¬ Accessible { base with pc := 0xA000 } 0xA000 := by decide

theorem witness_DiAndEiTakeEffectOneInstructionLater :
    (∃ s1 t t1 u, Running { at0 [0xFB, 0x00] with ime := false } ∧
      ({ at0 [0xFB, 0x00] with ime := false } : State).diPending = 0 ∧
      ({ at0 [0xFB, 0x00] with ime := false } : State).ime = false ∧
      fetchInstr { at0 [0xFB, 0x00] with ime := false } = .next (.ei, s1) ∧
      step { at0 [0xFB, 0x00] with ime := false } = .next t ∧ fetchInstr t = .next (.nop, t1) ∧ Instr.nop ≠ .ei ∧
      step t = .next u) ∧
    (∃ s1 t t1 u, Running (at0 [0xF3, 0x00]) ∧ (at0 [0xF3, 0x00]).eiPending = 0 ∧ (at0 [0xF3, 0x00]).ime = true ∧
      fetchInstr (at0 [0xF3, 0x00]) = .next (.di, s1) ∧ step (at0 [0xF3, 0x00]) = .next t ∧
      fetchInstr t = .next (.nop, t1) ∧ Instr.nop ≠ .di ∧ step t = .next u) :=
  ⟨⟨_, _, _, _, by decide, rfl, rfl, rfl, rfl, rfl, by decide, rfl⟩,
    ⟨_, _, _, _, by decide, rfl, rfl, rfl, rfl, rfl, by decide, rfl⟩⟩

/-- `RETI` as the disable timer expires, each timer armed again at 1 (log 12), a Halted step, a reset. -/
theorem witness_ImeIsWrittenInFourWays :
    (∃ s1 t, TimersOk { at0 [0xD9] with diPending := 1 } ∧ ({ at0 [0xD9] with diPending := 1 } : State).halted = false ∧
      fetchInstr { at0 [0xD9] with diPending := 1 } = .next (.reti, s1) ∧
      step { at0 [0xD9] with diPending := 1 } = .next t) ∧
    (∃ s1 t, TimersOk { at0 [0xFB] with eiPending := 1, ime := false } ∧
      ({ at0 [0xFB] with eiPending := 1, ime := false } : State).halted = false ∧
      fetchInstr { at0 [0xFB] with eiPending := 1, ime := false } = .next (.ei, s1) ∧
      step { at0 [0xFB] with eiPending := 1, ime := false } = .next t) ∧
    (∃ s1 t, TimersOk { at0 [0xF3] with diPending := 1 } ∧ ({ at0 [0xF3] with diPending := 1 } : State).halted = false ∧
      fetchInstr { at0 [0xF3] with diPending := 1 } = .next (.di, s1) ∧
      step { at0 [0xF3] with diPending := 1 } = .next t) ∧
    (∃ t, ({ base with halted := true } : State).halted = true ∧ step { base with halted := true } = .next t) ∧
    (∃ t, hostReset base = .next t) :=
  ⟨⟨_, _, by decide, rfl, rfl, rfl⟩, ⟨_, _, by decide, rfl, rfl, rfl⟩, ⟨_, _, by decide, rfl, rfl, rfl⟩, ⟨_, rfl, rfl⟩,
    ⟨_, rfl⟩⟩

theorem witness_HaltedIsEnteredByHaltAndStopAndNeverLeft :
    (∃ s1 t, (at0 [0x76]).halted = false ∧ fetchInstr (at0 [0x76]) = .next (.halt, s1) ∧ step (at0 [0x76]) = .next t) ∧
    (∃ s1 t s2, (at0 [0x10, 0x00]).halted = false ∧ fetchInstr (at0 [0x10, 0x00]) = .next (.stop, s1) ∧
      step (at0 [0x10, 0x00]) = .next t ∧ memRead s1.pc s1 = .next (0, s2)) ∧
    (∃ t, step { base with halted := true } = .next t) ∧ (∃ t, hostReset base = .next t) :=
  ⟨⟨_, _, rfl, rfl, rfl⟩, ⟨_, _, _, rfl, rfl, rfl, rfl⟩, ⟨_, rfl⟩, ⟨_, rfl⟩⟩

theorem witness_NopOnlyAdvances : Running (at0 [0x00]) ∧ storedByte (at0 [0x00]).pc (at0 [0x00]) = some 0x00 := by decide

theorem witness_EveryExecutedInstructionLeavesItsCost :
    ∃ t, (at0 [0x00]).halted = false ∧ step (at0 [0x00]) = .next t := ⟨_, rfl, rfl⟩

/-- The three frame statements (`RegistersOutsideTheWriteSetAreUnchanged`, `ControlStateOutsideTheWriteSetIsUnchanged`,
`MemoryOutsideTheStoredBytesIsUnchanged`): an instruction that completes, with a register, a flag, `SP`, `PC` and an address outside
its write set. -/
theorem witness_frames :
    (∃ t, exec .ld_at_HLplus_A base = .next t) ∧ MemoryOk base ∧
    formWritesReg (Instr.ld_at_HLplus_A).form .a = false ∧ formWritesFlags (Instr.ld_at_HLplus_A).form = false ∧
    formWritesSp (Instr.ld_at_HLplus_A).form = false ∧ formWritesPc (Instr.ld_at_HLplus_A).form = false ∧
    (Instr.ld_at_HLplus_A ≠ .halt ∧ Instr.ld_at_HLplus_A ≠ .stop ∧ Instr.ld_at_HLplus_A ≠ .reti ∧
      Instr.ld_at_HLplus_A ≠ .di ∧ Instr.ld_at_HLplus_A ≠ .ei) ∧
    (∀ a ∈ formStores (Instr.ld_at_HLplus_A).form base, placeOf base.romLength 0xC031 ≠ placeOf base.romLength a) :=
  ⟨⟨_, rfl⟩, by decide, rfl, rfl, rfl, rfl, by decide, fun a ha => by
    rw [List.mem_singleton.1 (show a ∈ [0xC030#16] from ha)]
    decide⟩

theorem witness_AStepCompletesOrRaisesANamedFault :
    base.fault = none ∧ 0x8000 ≤ base.romLength ∧
    (∃ r, step { base with pc := 0x0100, romLength := 0x100 } = .refused r) := ⟨rfl, by decide, _, rfl⟩

end Sys2Proof.Tests
end

section
/-! Pair views (10_state.md R12, R13). -/

namespace Sys2Proof.Machine

theorem joinBytes_and_joinBytes (x y p q : Byte) :
    joinBytes x y &&& joinBytes p q = joinBytes (x &&& p) (y &&& q) :=
  BitVec.and_append

/-- The mask of `F` seen through a 16-bit view (10_state.md R11, R12). -/
theorem joinBytes_hiByte_maskedLoByte (v : Word) : joinBytes (hiByte v) (loByte v &&& 0xF0) = v &&& 0xFFF0 :=
  calc joinBytes (hiByte v) (loByte v &&& 0xF0)
    _ = joinBytes (hiByte v &&& 0xFF) (loByte v &&& 0xF0) := by
      rw [show (0xFF : Byte) = BitVec.allOnes 8 from rfl, BitVec.and_allOnes]
    _ = joinBytes (hiByte v) (loByte v) &&& joinBytes 0xFF 0xF0 := (joinBytes_and_joinBytes _ _ _ _).symm
    _ = v &&& 0xFFF0 := by rw [joinBytes_hiByte_loByte]; rfl

theorem stkPair_af_setStkPair_af (s : State) (v : Word) : (s.setStkPair .af v).stkPair .af = v &&& 0xFFF0 :=
  joinBytes_hiByte_maskedLoByte v

/-- Settles O13: each clause is a byte-order lemma of the state's laws on the two bytes the view names; only the
read-back of `AF` needs the mask taken through the concatenation. -/
theorem pairViewsConcatenateAndSplit : Obligations.PairViewsConcatenateAndSplit := by
  intro s v x
  refine ⟨?read, fun rr => pair_setPair_same s rr v, ?split, ?af, ?byteInView, ?otherRegisters⟩
  case read => exact ⟨toNat_joinBytes _ _, toNat_joinBytes _ _, toNat_joinBytes _ _, toNat_joinBytes _ _⟩
  case split =>
    exact ⟨toNat_hiByte v, toNat_loByte v, toNat_hiByte v, toNat_loByte v, toNat_hiByte v, toNat_loByte v⟩
  case af => exact ⟨toNat_hiByte v, rfl, stkPair_af_setStkPair_af s v⟩
  case byteInView => exact ⟨rfl, rfl, rfl, rfl, rfl, rfl⟩
  case otherRegisters => exact fun r y hy => ⟨reg_setReg_other s r y x hy, f_setReg s r x⟩

end Sys2Proof.Machine
end

section
/-! Stored bytes and the memory port (20_memory.md R41, R45, R50 to R53, R58, R61). -/

namespace Sys2Proof.Machine

/-! ## Which addresses store a byte, and which share one -/

theorem storedByte_ne_none_iff_place (s : State) (a : Word) :
    storedByte a s ≠ none ↔ (∃ k, placeOf s.romLength a = .cell k) ∨ placeOf s.romLength a = .interruptFlag := by
  rw [storedByte]
  cases placeOf s.romLength a <;> simp

/-- The ROM, Video RAM, Working RAM, echo and high RAM rows of the decode (20_memory.md R41). -/
theorem placeOf_eq_cell_iff_range (n : Nat) (a : Word) :
    (∃ k, placeOf n a = .cell k) ↔
      (a.toNat < 0x8000 ∧ a.toNat < n) ∨ (0x8000 ≤ a.toNat ∧ a.toNat < 0xA000) ∨
        (0xC000 ≤ a.toNat ∧ a.toNat < 0xFE00) ∨ 0xFF80 ≤ a.toNat := by
  simp only [placeOf]
  split_ifs <;> simp only [Place.cell.injEq, exists_eq', exists_false, true_iff, false_iff] <;> omega

theorem placeOf_eq_interruptFlag_iff (n : Nat) (a : Word) : placeOf n a = .interruptFlag ↔ a = 0xFF0F := by
  rw [← BitVec.toNat_inj, show (0xFF0F : Word).toNat = 0xFF0F from rfl]
  simp only [placeOf]
  split_ifs <;> simp only [true_iff, false_iff] <;> omega

/-- An address reaches the byte it owns, or as an echo address the byte 0x2000 below (20_memory.md R45). -/
theorem toNat_of_placeOf_cell {n k : Nat} {a : Word} (h : placeOf n a = .cell k) :
    a.toNat = k ∨ (a.toNat = k + 0x2000 ∧ 0xC000 ≤ k ∧ k < 0xDE00) := by
  simp only [placeOf] at h
  split_ifs at h <;> simp only [Place.cell.injEq] at h <;> omega

theorem toNat_echo {a : Word} (h : a.toNat < 0xDE00) : (a + 0x2000).toNat = a.toNat + 0x2000 :=
  BitVec.toNat_add_of_lt (by simpa using (by omega : a.toNat + 0x2000 < 2 ^ 16))

theorem placeOf_workingRam (n : Nat) {a : Word} (h1 : 0xC000 ≤ a.toNat) (h2 : a.toNat < 0xE000) :
    placeOf n a = .cell a.toNat := by
  simp (disch := omega) only [placeOf, if_neg, if_pos]

theorem placeOf_echoRow (n : Nat) {a : Word} (h1 : 0xE000 ≤ a.toNat) (h2 : a.toNat < 0xFE00) :
    placeOf n a = .cell (a.toNat - 0x2000) := by
  simp (disch := omega) only [placeOf, if_neg, if_pos]

theorem placeOf_echo (n : Nat) {a : Word} (h1 : 0xC000 ≤ a.toNat) (h2 : a.toNat < 0xDE00) :
    placeOf n (a + 0x2000) = placeOf n a := by
  have hadd := toNat_echo h2
  rw [placeOf_workingRam n h1 (by omega), placeOf_echoRow n (by omega) (by omega), hadd, Nat.add_sub_cancel]

/-- No other pair of addresses shares a byte: both reach the owning address `k`, each directly or as its echo. -/
theorem eq_or_echo_of_placeOf_cell {n k : Nat} {a b : Word} (ha : placeOf n a = .cell k) (hb : placeOf n b = .cell k) :
    a = b ∨ (0xC000 ≤ a.toNat ∧ a.toNat < 0xDE00 ∧ b = a + 0x2000) ∨
      (0xC000 ≤ b.toNat ∧ b.toNat < 0xDE00 ∧ a = b + 0x2000) := by
  have echo {c d : Word} (hd : d.toNat = c.toNat + 0x2000) (hc : c.toNat < 0xDE00) : d = c + 0x2000 :=
    BitVec.eq_of_toNat_eq (hd.trans (toNat_echo hc).symm)
  obtain rfl | ⟨hak, hk1, hk2⟩ := toNat_of_placeOf_cell ha <;>
    obtain hbk | ⟨hbk, hk1', hk2'⟩ := toNat_of_placeOf_cell hb
  · exact .inl (BitVec.eq_of_toNat_eq hbk.symm)
  · exact .inr (.inl ⟨hk1', hk2', echo hbk hk2'⟩)
  · subst hbk
    exact .inr (.inr ⟨hk1, hk2, echo hak hk2⟩)
  · exact .inl (BitVec.eq_of_toNat_eq (hak.trans hbk.symm))

/-- Neighbouring addresses never reach the same stored byte, so the second access of a word leaves the first byte. -/
theorem placeOf_succ_ne_of_stored {s : State} {a : Word} (h : storedByte a s ≠ none) :
    placeOf s.romLength a ≠ placeOf s.romLength (a + 1) := by
  intro heq
  obtain ⟨k, hk⟩ | hflag := (storedByte_ne_none_iff_place s a).1 h
  · obtain hab | ⟨_, _, hab⟩ | ⟨_, _, hab⟩ := eq_or_echo_of_placeOf_cell hk (heq ▸ hk) <;> bv_omega
  · have ha := (placeOf_eq_interruptFlag_iff _ a).1 hflag
    have hb := (placeOf_eq_interruptFlag_iff _ (a + 1)).1 (heq ▸ hflag)
    bv_omega

/-! ## The memory port at an address that stores a byte -/

theorem storedByte_eq_of_place_eq {s : State} {a b : Word} (h : placeOf s.romLength b = placeOf s.romLength a) :
    storedByte b s = storedByte a s := by
  rw [storedByte, storedByte, h]

theorem memRead_of_stored {s : State} {a : Word} {v : Byte} (h : storedByte a s = some v) :
    memRead a s = .next (v, s) := by
  have hne : storedByte a s ≠ none := by simp [h]
  rw [memRead_accessible (accessible_of_stored hne), afterRead_of_stored hne, readValue, h]

theorem fetch8_of_stored {s : State} {v : Byte} (h : storedByte s.pc s = some v) :
    fetch8 s = .next (v, { s with pc := s.pc + 1 }) := by
  rw [fetch8, memRead_of_stored h, andThen_of_next]

theorem memWrite_of_stored {s : State} {a : Word} (v : Byte) (h : storedByte a s ≠ none) :
    memWrite a v s = .next (afterWrite a v s) :=
  memWrite_accessible v (accessible_of_stored h)

theorem storedByte_afterWrite_samePlace {s : State} {a b : Word} (v : Byte) (hm : s.mem.wf = true)
    (h : storedByte a s ≠ none) (hab : placeOf s.romLength b = placeOf s.romLength a) :
    storedByte b (afterWrite a v s) = some v := by
  rw [storedByte_eq_of_place_eq (a := a) (by simpa using hab), storedByte_afterWrite_same v hm h]

/-- A byte written is read at every address that reaches it. -/
theorem memRead_samePlace_after_memWrite {s : State} {a b : Word} (v : Byte) (hm : s.mem.wf = true)
    (h : storedByte a s ≠ none) (hab : placeOf s.romLength b = placeOf s.romLength a) :
    ∃ t, memWrite a v s = .next t ∧ memRead b t = .next (v, t) :=
  ⟨_, memWrite_of_stored v h, memRead_of_stored (storedByte_afterWrite_samePlace v hm h hab)⟩

/-- Settles O16: a write at a stored byte ends in `afterWrite`, whose read, fetch and frame are the laws of the memory
port; the addresses that store a byte are the decode's cells and 0xFF0F. -/
theorem aWriteIsReadBackAndChangesOneByte : Obligations.AWriteIsReadBackAndChangesOneByte := by
  refine ⟨?write, ?ranges⟩
  case write =>
    intro s a v ⟨hm, _, _⟩ hstored
    have hv : storedByte a (afterWrite a v s) = some v := storedByte_afterWrite_same v hm hstored
    have hfetch : storedByte a { afterWrite a v s with pc := a } = some v := (storedByte_congr a rfl rfl rfl).trans hv
    refine ⟨_, memWrite_of_stored v hstored, memRead_of_stored hv, fetch8_of_stored hfetch,
      fun b hb => storedByte_afterWrite_other v hm hb, ?frame⟩
    rw [afterWrite_eq]
  case ranges =>
    intro s a
    rw [storedByte_ne_none_iff_place, placeOf_eq_cell_iff_range, placeOf_eq_interruptFlag_iff]
    tauto

/-- Settles O17: the decode sends both addresses to one owning address, so either is read after a write to the other. -/
theorem theEchoNamesTheSameBytes : Obligations.TheEchoNamesTheSameBytes := by
  refine ⟨fun n a h1 h2 => placeOf_echo n h1 h2, ?writes, fun n k a b => eq_or_echo_of_placeOf_cell⟩
  intro s a v ⟨hm, _, _⟩ h1 h2
  have hecho := placeOf_echo s.romLength h1 h2
  have hstored : storedByte a s ≠ none :=
    (storedByte_ne_none_iff_place s a).2 (.inl ((placeOf_eq_cell_iff_range _ _).2 (by omega)))
  have hstored' : storedByte (a + 0x2000) s ≠ none := by rwa [storedByte_eq_of_place_eq hecho]
  exact ⟨memRead_samePlace_after_memWrite v hm hstored' hecho.symm, memRead_samePlace_after_memWrite v hm hstored hecho⟩

/-! ## Two-byte accesses -/

theorem memRead2_accessible {s : State} {a : Word} (h : Accessible2 s a) :
    memRead2 a s = .next (readValue2 a s, afterRead2 a s) := by
  obtain ⟨hhi, hlo⟩ := h
  rw [memRead2, memRead_accessible hhi, andThen_of_next, memRead_accessible (accessible_afterRead.2 hlo)]
  rfl

theorem memWrite2_accessible {s : State} {a : Word} (v : Word) (h : Accessible2 s a) :
    memWrite2 a v s = .next (afterWrite2 a v s) := by
  obtain ⟨hhi, hlo⟩ := h
  rw [memWrite2, memWrite_accessible _ hhi, andThen_of_next, memWrite_accessible _ (accessible_afterWrite.2 hlo)]
  rfl

/-- The stop of an access depends on the image length alone. -/
theorem accessStop_congr {α : Type} {s t : State} (a : Word) (d : Access) (h : t.romLength = s.romLength) :
    (accessStop a d t : Result α) = accessStop a d s := by
  rw [accessStop, accessStop, h]

theorem andThen_accessStop {α β : Type} (a : Word) (d : Access) (s : State) (k : α → Result β) :
    andThen (accessStop a d s) k = accessStop a d s := by
  rw [accessStop, accessStop]
  cases placeOf s.romLength a <;> rfl

theorem memRead2_stop_first {s : State} {a : Word} (h : ¬ Accessible s a) : memRead2 a s = accessStop a .read s := by
  rw [memRead2, memRead_stop h, andThen_accessStop]

theorem memWrite2_stop_first {s : State} {a : Word} (v : Word) (h : ¬ Accessible s a) :
    memWrite2 a v s = accessStop a .write s := by
  rw [memWrite2, memWrite_stop _ h, andThen_accessStop]

theorem memRead2_stop_second {s : State} {a : Word} (h1 : Accessible s a) (h2 : ¬ Accessible s (a + 1)) :
    memRead2 a s = accessStop (a + 1) .read s := by
  rw [memRead2, memRead_accessible h1, andThen_of_next, memRead_stop (mt accessible_afterRead.1 h2), andThen_accessStop,
    accessStop_congr _ _ (romLength_afterRead a s)]

theorem memWrite2_stop_second {s : State} {a : Word} (v : Word) (h1 : Accessible s a) (h2 : ¬ Accessible s (a + 1)) :
    memWrite2 a v s = accessStop (a + 1) .write s := by
  rw [memWrite2, memWrite_accessible _ h1, andThen_of_next, memWrite_stop _ (mt accessible_afterWrite.1 h2),
    accessStop_congr _ _ (romLength_afterWrite a _ s)]

theorem memRead2_of_stored {s : State} {a : Word} {hi lo : Byte} (hhi : storedByte a s = some hi)
    (hlo : storedByte (a + 1) s = some lo) : memRead2 a s = .next (joinBytes hi lo, s) := by
  rw [memRead2, memRead_of_stored hhi, andThen_of_next, memRead_of_stored hlo, andThen_of_next]

/-- A stored word is big-endian: the second write goes to another byte and leaves the high byte in place. -/
theorem storedBytes_afterWrite2 {s : State} {a : Word} (v : Word) (hm : MemoryOk s) (hhi : storedByte a s ≠ none)
    (hlo : storedByte (a + 1) s ≠ none) :
    storedByte a (afterWrite2 a v s) = some (hiByte v) ∧ storedByte (a + 1) (afterWrite2 a v s) = some (loByte v) := by
  have hne := placeOf_succ_ne_of_stored hhi
  obtain ⟨hm1, _, _⟩ := MemoryOk_afterWrite a (hiByte v) hm
  have hlo1 : storedByte (a + 1) (afterWrite a (hiByte v) s) ≠ none := by
    rwa [storedByte_afterWrite_other _ hm.1 hne.symm]
  constructor
  · rw [afterWrite2, storedByte_afterWrite_other _ hm1 (by simpa using hne), storedByte_afterWrite_same _ hm.1 hhi]
  · exact storedByte_afterWrite_same _ hm1 hlo1

/-- Settles O18: each clause is the law of a two-byte access for its case of the two addresses; a stored word is read
back from the two bytes it left. -/
theorem wordsAreStoredHighByteFirst : Obligations.WordsAreStoredHighByteFirst := by
  refine ⟨fun s a h => memRead2_accessible h, fun s a v h => memWrite2_accessible v h,
    fun s a v h => ⟨memRead2_stop_first h, memWrite2_stop_first v h⟩,
    fun s a v h1 h2 => ⟨memRead2_stop_second h1 h2, memWrite2_stop_second v h1 h2⟩, ?readBack⟩
  intro s a v hm hhi hlo
  obtain ⟨hhi', hlo'⟩ := storedBytes_afterWrite2 v hm hhi hlo
  refine ⟨_, memWrite2_accessible v ⟨accessible_of_stored hhi, accessible_of_stored hlo⟩, ?_, hhi', hlo'⟩
  rw [memRead2_of_stored hhi' hlo', joinBytes_hiByte_loByte]

end Sys2Proof.Machine
end

section
/-! `BIT`, `RES` and `SET` on a register (42_rotate_shift_bit.md R191, R193, R195, R197). -/

namespace Sys2Proof.Machine

/-! ## One bit of a byte -/

theorem getLsbD_bitMask_self (b : Ix8) : (bitMask b.toNat).getLsbD b.toNat = true := by cases b <;> rfl

@[simp] theorem getLsbD_raiseBit_same (b : Ix8) (x : Byte) : (raiseBit b x).getLsbD b.toNat = true := by
  rw [raiseBit, BitVec.getLsbD_or, getLsbD_bitMask_self, Bool.or_true]

@[simp] theorem getLsbD_clearBit_same (b : Ix8) (x : Byte) : (clearBit b x).getLsbD b.toNat = false := by
  simp [clearBit, getLsbD_bitMask_self]

/-! ## The flags of `BIT` -/

@[simp] theorem reg_setBitFlags (s : State) (b : Ix8) (v : Byte) (x : Reg8) : (s.setBitFlags b v).reg x = s.reg x :=
  reg_setFlags s x _ _ _ _

theorem flagZ_setBitFlags (s : State) (b : Ix8) (v : Byte) : (s.setBitFlags b v).flagZ = !v.getLsbD b.toNat :=
  flagZ_setFlags s _ _ _ _

/-! ## The three rows on a register -/

theorem exec_bitReg (b : Ix8) (r : Reg8) (s : State) :
    exec (Form.bitReg b r).instr s = .next { s.setBitFlags b (s.reg r) with cycles := 2 } :=
  exec_instr (.bitReg b r) s

theorem exec_resReg (b : Ix8) (r : Reg8) (s : State) :
    exec (Form.resReg b r).instr s = .next { s.setReg r (clearBit b (s.reg r)) with cycles := 2 } :=
  exec_instr (.resReg b r) s

theorem exec_setReg (b : Ix8) (r : Reg8) (s : State) :
    exec (Form.setReg b r).instr s = .next { s.setReg r (raiseBit b (s.reg r)) with cycles := 2 } :=
  exec_instr (.setReg b r) s

/-- `BIT` of the register just written tests the byte written to it. -/
theorem bitReg_tests_written_byte (b : Ix8) (r : Reg8) (v n : Byte) (s : State) :
    ∃ u, exec (Form.bitReg b r).instr { s.setReg r v with cycles := n } = .next u ∧ u.flagZ = !v.getLsbD b.toNat := by
  have hreg : State.reg { s.setReg r v with cycles := n } r = v := reg_setReg_same s r v
  refine ⟨_, exec_bitReg b r _, ?_⟩
  rw [hreg]
  exact flagZ_setBitFlags _ b v

/-- Settles O42: `SET` and `RES` each write one byte, whose bit `b` is known, and `BIT` of that register reports the bit;
`BIT` itself writes the flags alone. -/
theorem setOrResetThenTest : Obligations.SetOrResetThenTest := by
  intro b r s
  refine ⟨?set, ?reset, ?frame⟩
  case set =>
    obtain ⟨u, hu, hz⟩ := bitReg_tests_written_byte b r (raiseBit b (s.reg r)) 2 s
    exact ⟨_, u, exec_setReg b r s, hu, by rw [hz, getLsbD_raiseBit_same, Bool.not_true]⟩
  case reset =>
    obtain ⟨u, hu, hz⟩ := bitReg_tests_written_byte b r (clearBit b (s.reg r)) 2 s
    exact ⟨_, u, exec_resReg b r s, hu, by rw [hz, getLsbD_clearBit_same, Bool.not_false]⟩
  case frame => exact ⟨_, exec_bitReg b r s, fun x => reg_setBitFlags s b _ x, rfl, rfl⟩

end Sys2Proof.Machine
end

section
/-! `NOP` (46_system.md R280), and the step of a row whose one byte is stored at `PC` (30_encoding.md R80). -/

namespace Sys2Proof.Machine

/-- The fetch of a row that is its opcode byte alone (30_encoding.md R81, R95). -/
theorem fetchInstr_of_bare {s : State} {op : Byte} (hf : formatOf op = .bare) (h : storedByte s.pc s = some op) :
    fetchInstr s = .next ((primaryForm op 0 0).instr, { s with pc := s.pc + 1 }) := by
  have hlen : fetchLength op - 1 = 0 := by simp [fetchLength, hf]
  have hdec : decode [op] = .ok ((primaryForm op 0 0).instr, []) := by rw [decode, hf]
  rw [fetchInstr, fetch8_of_stored h, andThen_of_next, hlen, fetchBytes, andThen_of_next, hdec]

/-- A running step whose fetch and execution go through ends with the tick of the timers. -/
theorem step_of_running {s s1 u : State} {i : Instr} (hr : Running s) (hf : fetchInstr s = .next (i, s1))
    (hx : exec i s1 = .next u) : step s = .next (tickTimers u) := by
  obtain ⟨hfault, hhalted⟩ := hr
  simp [step, runStep, hfault, hhalted, hf, hx]

theorem step_of_storedNop {s : State} (hr : Running s) (h : storedByte s.pc s = some 0x00) :
    step s = .next (tickTimers { s with pc := s.pc + 1, cycles := 1 }) :=
  step_of_running hr (fetchInstr_of_bare rfl h) rfl

/-- Settles O47: the byte 0x00 is a row of one byte that writes the cost alone, and the tick of the timers that ends the
step keeps every field the statement names. -/
theorem nopOnlyAdvances : Obligations.NopOnlyAdvances := by
  refine ⟨rfl, fun s => rfl, fun s hr h => ?step⟩
  have hstep := step_of_storedNop hr h
  exact ⟨hstep, _, hstep, pc_tickTimers _, cycles_tickTimers _, regs_tickTimers _, sp_tickTimers _, halted_tickTimers _,
    mem_tickTimers _, ioIf_tickTimers _⟩

end Sys2Proof.Machine
end

section
/-! The encoding (30_encoding.md): the bytes of each form by its field codes, the decoder by format, the round trips. -/

namespace Sys2Proof.Machine

/-! ## The bytes of a form -/

/-- The pair code of the accumulator loads, x=0 z=2 (30_encoding.md R90). -/
def codePtr (p : Ptr) : Byte :=
  match p with
  | .bc => 0
  | .de => 1
  | .hlInc => 2
  | .hlDec => 3

/-- The bytes of the row of a form, by the Encoding line of its rule: the field codes of 30_encoding.md R84 to R88 in
the opcode byte, then the immediate. -/
def formBytes (f : Form) : List Byte :=
  match f with
  | .nop => [0x00]
  | .ldPairImm rr nn => [0x01 + codePair rr * 16, loByte nn, hiByte nn]
  | .ldPtrA p => [0x02 + codePtr p * 16]
  | .incPair rr => [0x03 + codePair rr * 16]
  | .incReg r => [0x04 + codeReg r * 8]
  | .decReg r => [0x05 + codeReg r * 8]
  | .ldRegImm dst n => [0x06 + codeReg dst * 8, n]
  | .accRot op => [0x07 + codeRot (accRotOp op) * 8]
  | .ldAbsSp nn => [0x08, loByte nn, hiByte nn]
  | .addHl rr => [0x09 + codePair rr * 16]
  | .ldAPtr p => [0x0A + codePtr p * 16]
  | .decPair rr => [0x0B + codePair rr * 16]
  | .stop => [0x10, 0x00]
  | .jr e => [0x18, e]
  | .jrCc cc e => [0x20 + codeCond cc * 8, e]
  | .daa => [0x27]
  | .cpl => [0x2F]
  | .incMem => [0x34]
  | .decMem => [0x35]
  | .ldMemImm n => [0x36, n]
  | .scf => [0x37]
  | .ccf => [0x3F]
  | .ldRegReg dst src => [0x40 + codeReg dst * 8 + codeReg src]
  | .ldRegMem dst => [0x46 + codeReg dst * 8]
  | .ldMemReg r => [0x70 + codeReg r]
  | .halt => [0x76]
  | .aluReg op r => [0x80 + codeAlu op * 8 + codeReg r]
  | .aluMem op => [0x86 + codeAlu op * 8]
  | .retCc cc => [0xC0 + codeCond cc * 8]
  | .pop q => [0xC1 + codeStk q * 16]
  | .jpCc cc nn => [0xC2 + codeCond cc * 8, loByte nn, hiByte nn]
  | .jp nn => [0xC3, loByte nn, hiByte nn]
  | .callCc cc nn => [0xC4 + codeCond cc * 8, loByte nn, hiByte nn]
  | .push q => [0xC5 + codeStk q * 16]
  | .aluImm op n => [0xC6 + codeAlu op * 8, n]
  | .rst t => [0xC7 + codeIx t * 8]
  | .ret => [0xC9]
  | .prefixCb => [0xCB]
  | .call nn => [0xCD, loByte nn, hiByte nn]
  | .undefined u => [u.byte]
  | .reti => [0xD9]
  | .ldPortA n => [0xE0, n]
  | .ldPortCA => [0xE2]
  | .addSpE e => [0xE8, e]
  | .jpHl => [0xE9]
  | .ldAbsA nn => [0xEA, loByte nn, hiByte nn]
  | .ldAPort n => [0xF0, n]
  | .ldAPortC => [0xF2]
  | .di => [0xF3]
  | .ldHlSpE e => [0xF8, e]
  | .ldSpHl => [0xF9]
  | .ldAAbs nn => [0xFA, loByte nn, hiByte nn]
  | .ei => [0xFB]
  | .rotReg op r => [0xCB, codeRot op * 8 + codeReg r]
  | .rotMem op => [0xCB, codeRot op * 8 + 6]
  | .bitReg b r => [0xCB, 0x40 + codeIx b * 8 + codeReg r]
  | .bitMem b => [0xCB, 0x46 + codeIx b * 8]
  | .resReg b r => [0xCB, 0x80 + codeIx b * 8 + codeReg r]
  | .resMem b => [0xCB, 0x86 + codeIx b * 8]
  | .setReg b r => [0xCB, 0xC0 + codeIx b * 8 + codeReg r]
  | .setMem b => [0xCB, 0xC6 + codeIx b * 8]

/-- Every row of the encoder is the Encoding line of the row's form. -/
theorem encode_eq_formBytes (i : Instr) : encode i = formBytes i.form := by cases i <;> rfl

theorem encode_instr (f : Form) : encode f.instr = formBytes f := by rw [encode_eq_formBytes, form_instr]

/-! ## The decoder by format (30_encoding.md R81) -/

theorem decode_bare {op : Byte} (h : formatOf op = .bare) (rest : List Byte) :
    decode (op :: rest) = .ok ((primaryForm op 0 0).instr, rest) := by simp [decode, h]

theorem decode_imm8 {op : Byte} (h : formatOf op = .imm8) (n : Byte) (rest : List Byte) :
    decode (op :: n :: rest) = .ok ((primaryForm op n 0).instr, rest) := by rw [decode, h]

/-- A 16-bit immediate is written low byte first (30_encoding.md R83). -/
theorem decode_imm16 {op : Byte} (h : formatOf op = .imm16) (nn : Word) (rest : List Byte) :
    decode (op :: loByte nn :: hiByte nn :: rest) = .ok ((primaryForm op 0 nn).instr, rest) := by
  simp [decode, h]

theorem decode_secondByte {op : Byte} (h : formatOf op = .secondByte) (op2 : Byte) (rest : List Byte) :
    decode (op :: op2 :: rest) = .ok ((secondaryForm op2).instr, rest) := by rw [decode, h]

theorem decode_stop {op : Byte} (h : formatOf op = .stop) (rest : List Byte) :
    decode (op :: rest) = .ok ((primaryForm op 0 0).instr, rest.drop (lengthOf op rest - 1)) := by
  simp [decode, h]

theorem formatOf_eq_stop_iff (op : Byte) : formatOf op = .stop ↔ op = 0x10 := by
  revert op
  decide

theorem formatOf_eq_secondByte_iff (op : Byte) : formatOf op = .secondByte ↔ op = 0xCB := by
  revert op
  decide

/-! ## Decoding the encoding -/

/-- The bytes of a form decode to its row: the codes of the fields name the fields back, and each row's bytes are as
many as the format of its opcode byte asks for. -/
theorem decode_formBytes (f : Form) (hf : f ≠ .prefixCb) (rest : List Byte) :
    decode (formBytes f ++ rest) = .ok (f.instr, rest) := by
  cases f with
  | prefixCb => exact absurd rfl hf
  | nop | stop | jr _ | daa | cpl | incMem | decMem | ldMemImm _ | scf | ccf | halt | ret | reti | ldPortA _ | ldPortCA
  | addSpE _ | jpHl | ldAPort _ | ldAPortC | di | ldHlSpE _ | ldSpHl | ei => rfl
  | ldAbsSp nn | jp nn | call nn | ldAbsA nn | ldAAbs nn => exact decode_imm16 rfl nn rest
  | ldPairImm rr nn => cases rr <;> exact decode_imm16 rfl nn rest
  | jpCc cc nn | callCc cc nn => cases cc <;> exact decode_imm16 rfl nn rest
  | incPair rr | addHl rr | decPair rr => cases rr <;> rfl
  | ldPtrA p | ldAPtr p => cases p <;> rfl
  | pop q | push q => cases q <;> rfl
  | jrCc cc _ | retCc cc => cases cc <;> rfl
  | rst t => cases t <;> rfl
  | undefined u => cases u <;> rfl
  | accRot op | aluMem op | aluImm op _ | rotMem op => cases op <;> rfl
  | incReg r | decReg r | ldRegImm r _ | ldRegMem r | ldMemReg r => cases r <;> rfl
  | bitMem b | resMem b | setMem b => cases b <;> rfl
  | ldRegReg r r' => cases r <;> cases r' <;> rfl
  | aluReg op r | rotReg op r => cases op <;> cases r <;> rfl
  | bitReg b r | resReg b r | setReg b r => cases b <;> cases r <;> rfl

/-- Settles O2: a row's bytes are its form's, and the decoder reads the form back from them. -/
theorem decodeOfEncodeIsTheInstruction : Obligations.DecodeOfEncodeIsTheInstruction := by
  intro i rest hi
  rw [isPrefixRow_eq, decide_eq_false_iff_not] at hi
  rw [encode_eq_formBytes, decode_formBytes i.form hi, instr_form]

/-! ## Encoding what is decoded -/

/-- Every opcode byte is a quadrant with two 3-bit fields (30_encoding.md R81). -/
theorem exists_fields (op : Byte) :
    ∃ x ∈ [0x00#8, 0x40, 0x80, 0xC0], ∃ y z : Ix8, op = x + codeIx y * 8 + codeIx z := by
  have hfields : ∀ op : Byte, (op &&& 0xC0) ∈ [0x00#8, 0x40, 0x80, 0xC0] ∧
      op = (op &&& 0xC0) + codeIx (ix8 (fieldY op)) * 8 + codeIx (ix8 (fieldZ op)) := by decide
  exact ⟨_, (hfields op).1, _, _, (hfields op).2⟩

/-- What follows the opcode byte in a row of the primary table, by its format (30_encoding.md R81, R83). -/
def operandBytes (fmt : Format) (n : Byte) (nn : Word) : List Byte :=
  match fmt with
  | .bare => []
  | .imm8 => [n]
  | .imm16 => [loByte nn, hiByte nn]
  | .secondByte => []
  | .stop => [0x00]

/-- The primary table's rows are encoded with the opcode byte that selects them, and no bit of it is ignored. -/
theorem formBytes_primaryForm (op n : Byte) (nn : Word) :
    formBytes (primaryForm op n nn) = op :: operandBytes (formatOf op) n nn := by
  obtain ⟨x, hx, y, z, rfl⟩ := exists_fields op
  simp only [List.mem_cons, List.not_mem_nil, or_false] at hx
  obtain rfl | rfl | rfl | rfl := hx <;> cases y <;> cases z <;> rfl

theorem formBytes_secondaryForm (op2 : Byte) : formBytes (secondaryForm op2) = [0xCB, op2] := by
  revert op2
  decide

theorem encode_primaryRow {op : Byte} {fmt : Format} (h : formatOf op = fmt) (n : Byte) (nn : Word) :
    encode (primaryForm op n nn).instr = op :: operandBytes fmt n nn := by
  rw [encode_instr, formBytes_primaryForm, h]

/-- Settles O3: format by format, the decoded row is encoded with the opcode byte and the immediate that were read; only
`STOP` can have been read from fewer bytes than it is encoded in. -/
theorem encodeOfDecodeIsTheBytes : Obligations.EncodeOfDecodeIsTheBytes := by
  intro bytes rest i hdec
  obtain _ | ⟨op, tail⟩ := bytes
  · cases hdec
  cases hfmt : formatOf op with
  | bare =>
    rw [decode_bare hfmt] at hdec
    cases hdec
    exact .inl (by rw [encode_primaryRow hfmt]; rfl)
  | stop =>
    obtain rfl := (formatOf_eq_stop_iff op).1 hfmt
    rw [decode_stop hfmt] at hdec
    cases hdec
    by_cases hzero : tail.head? = some 0x00
    · obtain ⟨tail, rfl⟩ := List.head?_eq_some_iff.1 hzero
      exact .inl rfl
    · have hlen : lengthOf 0x10 tail = 1 := by rw [lengthOf, if_neg fun h => hzero h.2]; rfl
      exact .inr ⟨rfl, by rw [hlen]; rfl, by rwa [hlen]⟩
  | secondByte =>
    obtain rfl := (formatOf_eq_secondByte_iff op).1 hfmt
    obtain _ | ⟨op2, tail⟩ := tail
    · cases hdec
    · cases hdec
      exact .inl (by rw [encode_instr, formBytes_secondaryForm]; rfl)
  | imm8 =>
    obtain _ | ⟨n, tail⟩ := tail
    · simp [decode, hfmt] at hdec
    · rw [decode_imm8 hfmt] at hdec
      cases hdec
      exact .inl (by rw [encode_primaryRow hfmt]; rfl)
  | imm16 =>
    obtain _ | ⟨lo, _ | ⟨hi, tail⟩⟩ := tail
    · simp [decode, hfmt] at hdec
    · simp [decode, hfmt] at hdec
    · have hbytes := decode_imm16 hfmt (joinBytes hi lo) tail
      rw [loByte_joinBytes, hiByte_joinBytes] at hbytes
      rw [hbytes] at hdec
      cases hdec
      exact .inl (by rw [encode_primaryRow hfmt, operandBytes, loByte_joinBytes, hiByte_joinBytes]; rfl)

/-! ## Lengths (30_encoding.md R95) -/

/-- Every opcode byte but that of `STOP` has the length that its step fetches, whatever follows. -/
theorem lengthOf_of_ne_stop {op : Byte} (tail : List Byte) (h : op ≠ 0x10) : lengthOf op tail = fetchLength op :=
  lengthOf_of_not_stop tail (mt (formatOf_eq_stop_iff op).1 h)

theorem lengthOf_stop (tail : List Byte) : lengthOf 0x10 tail = if tail.head? = some 0x00 then 2 else 1 := by
  rw [lengthOf, fetchLength, show formatOf 0x10 = .stop from rfl]
  simp

theorem fetchLength_range (op : Byte) : 1 ≤ fetchLength op ∧ fetchLength op ≤ 3 := by
  cases hfmt : formatOf op <;> simp [fetchLength, hfmt]

theorem lengthOf_range (op : Byte) (tail : List Byte) : 1 ≤ lengthOf op tail ∧ lengthOf op tail ≤ 3 := by
  obtain rfl | hne := eq_or_ne op 0x10
  · rw [lengthOf_stop]
    split_ifs <;> decide
  · rw [lengthOf_of_ne_stop tail hne]
    exact fetchLength_range op

/-- `STOP` is never too short: its second byte belongs to it only where it stands there (30_encoding.md R95). -/
theorem lengthOf_stop_le (tail : List Byte) : lengthOf 0x10 tail ≤ tail.length + 1 := by
  rw [lengthOf_stop]
  cases tail <;> simp
  split_ifs <;> omega

/-- A string as long as its opcode byte asks for decodes, and the bytes after the instruction are left over. -/
theorem decode_of_length_le {op : Byte} {tail : List Byte} (h : lengthOf op tail ≤ tail.length + 1) :
    ∃ i, decode (op :: tail) = .ok (i, tail.drop (lengthOf op tail - 1)) := by
  cases hfmt : formatOf op with
  | stop => exact ⟨_, decode_stop hfmt tail⟩
  | bare =>
    rw [lengthOf_of_not_stop tail (by simp [hfmt]), fetchLength, hfmt]
    exact ⟨_, decode_bare hfmt tail⟩
  | imm8 =>
    rw [lengthOf_of_not_stop tail (by simp [hfmt]), fetchLength, hfmt] at h ⊢
    obtain _ | ⟨n, tail⟩ := tail
    · simp at h
    · exact ⟨_, decode_imm8 hfmt n tail⟩
  | secondByte =>
    rw [lengthOf_of_not_stop tail (by simp [hfmt]), fetchLength, hfmt] at h ⊢
    obtain _ | ⟨op2, tail⟩ := tail
    · simp at h
    · exact ⟨_, decode_secondByte hfmt op2 tail⟩
  | imm16 =>
    rw [lengthOf_of_not_stop tail (by simp [hfmt]), fetchLength, hfmt] at h ⊢
    obtain _ | ⟨lo, _ | ⟨hi, tail⟩⟩ := tail
    · simp at h
    · simp at h
    · simp [decode, hfmt]

/-- A shorter string is rejected: the byte that is missing is an immediate or the second opcode byte. -/
theorem decode_of_lt_length {op : Byte} {tail : List Byte} (h : tail.length + 1 < lengthOf op tail) :
    ∃ e, decode (op :: tail) = .error e := by
  obtain rfl | hne := eq_or_ne op 0x10
  · exact absurd (lengthOf_stop_le tail) (by omega)
  rw [lengthOf_of_ne_stop tail hne, fetchLength] at h
  cases hfmt : formatOf op <;> rw [hfmt] at h <;> dsimp only at h
  case bare | stop => omega
  case imm8 | secondByte =>
    obtain rfl := List.eq_nil_of_length_eq_zero (by omega : tail.length = 0)
    exact ⟨_, by rw [decode, hfmt]⟩
  case imm16 =>
    obtain _ | ⟨lo, _ | ⟨hi, tail⟩⟩ := tail
    · simp [decode, hfmt]
    · simp [decode, hfmt]
    · simp only [List.length_cons] at h
      omega

/-- Settles O4: each format decodes once its bytes are there and is rejected before; only `STOP` looks past its opcode
byte for its length. -/
theorem decodeRejectsOnlyShortStrings : Obligations.DecodeRejectsOnlyShortStrings := by
  refine ⟨fun op tail => ⟨decode_of_length_le, decode_of_lt_length⟩, rfl, lengthOf_range, ?firstByte,
    fun tail => ⟨rfl, ?two⟩, ?one, rfl⟩
  case firstByte =>
    intro op tail tail' hne
    rw [lengthOf_of_ne_stop tail hne, lengthOf_of_ne_stop tail' hne]
  case two => rw [lengthOf_stop, List.head?_cons, if_pos rfl]
  case one =>
    intro v tail hv
    rw [lengthOf_stop, List.head?_cons, if_neg (by simpa using hv)]

/-- Settles O1: each word is the Encoding line of its form at those operands; the two short strings reach no row. -/
theorem tableWordsDecodeToTheirRows : Obligations.TableWordsDecodeToTheirRows := by
  have row (f : Form) (hf : f ≠ .prefixCb) : decode (formBytes f) = .ok (f.instr, []) := by
    simpa using decode_formBytes f hf []
  exact ⟨row .nop nofun, row (.ldRegImm .b 0x42) nofun, row (.jp 0x0150) nofun, row (.ldPairImm .hl 0x3A5B) nofun,
    row (.aluReg .adc .b) nofun, row (.aluImm .cp 0x3C) nofun, row (.addHl .sp) nofun, row (.accRot .rra) nofun,
    row (.jrCc .nz 0xFC) nofun, row .halt nofun, row (.pop .af) nofun, decode_stop rfl [0x3C], row .stop nofun,
    row (.rotReg .swap .a) nofun, row (.bitReg .i4 .l) nofun, row (.setReg .i2 .e) nofun, row (.undefined .uD3) nofun,
    rfl, rfl⟩

end Sys2Proof.Machine
end

section
/-! The rows one by one (40_alu8.md to 46_system.md): each is its form's shared operation, which goes on after an access
to an accessible address and ends in the access's own stop at any other. -/

namespace Sys2Proof.Machine

/-! ## An operation after an access -/

theorem memRead_then {β : Type} {s : State} {a : Word} (h : Accessible s a) (k : Byte × State → Result β) :
    andThen (memRead a s) k = k (readValue a s, afterRead a s) := by
  rw [memRead_accessible h, andThen_of_next]

theorem memRead_then_stop {β : Type} {s : State} {a : Word} (h : ¬ Accessible s a) (k : Byte × State → Result β) :
    andThen (memRead a s) k = accessStop a .read s := by
  rw [memRead_stop h, andThen_accessStop]

theorem memWrite_then {β : Type} {s : State} {a : Word} (h : Accessible s a) (v : Byte) (k : State → Result β) :
    andThen (memWrite a v s) k = k (afterWrite a v s) := by
  rw [memWrite_accessible v h, andThen_of_next]

theorem memWrite_then_stop {β : Type} {s : State} {a : Word} (h : ¬ Accessible s a) (v : Byte) (k : State → Result β) :
    andThen (memWrite a v s) k = accessStop a .write s := by
  rw [memWrite_stop v h, andThen_accessStop]

/-- A byte changed in place: where the read goes through, so does the write. -/
theorem memUpdate_then {β : Type} {s : State} {a : Word} (h : Accessible s a) (g : Byte → Byte)
    (k : Byte → State → Result β) :
    (andThen (memRead a s) fun p => andThen (memWrite a (g p.1) p.2) fun t => k p.1 t) =
      k (readValue a s) (afterWrite a (g (readValue a s)) (afterRead a s)) := by
  rw [memRead_then h, memWrite_then (accessible_afterRead.2 h)]

/-! ## The stack -/

/-- A write does not look at `SP`. -/
theorem afterWrite_withSp (a : Word) (v : Byte) (s : State) (x : Word) :
    afterWrite a v { s with sp := x } = { afterWrite a v s with sp := x } := by
  rw [afterWrite, afterWrite]
  cases placeOf s.romLength a <;> rfl

theorem afterWrite2_withSp (a v : Word) (s : State) (x : Word) :
    afterWrite2 a v { s with sp := x } = { afterWrite2 a v s with sp := x } := by
  rw [afterWrite2, afterWrite_withSp a]
  exact afterWrite_withSp _ _ _ _

theorem push16_accessible {s : State} (v : Word) (h : Accessible2 s (s.sp - 2)) :
    push16 v s = .next { afterWrite2 (s.sp - 2) v s with sp := s.sp - 2 } := by
  have h' : Accessible2 { s with sp := s.sp - 2 } (s.sp - 2) := h
  rw [push16, memWrite2_accessible v h', afterWrite2_withSp]

theorem push16_then {β : Type} {s : State} (v : Word) (h : Accessible2 s (s.sp - 2)) (k : State → Result β) :
    andThen (push16 v s) k = k { afterWrite2 (s.sp - 2) v s with sp := s.sp - 2 } := by
  rw [push16_accessible v h, andThen_of_next]

theorem push16_then_stop_first {β : Type} {s : State} (v : Word) (h : ¬ Accessible s (s.sp - 2))
    (k : State → Result β) : andThen (push16 v s) k = accessStop (s.sp - 2) .write s := by
  have h' : ¬ Accessible { s with sp := s.sp - 2 } (s.sp - 2) := h
  rw [push16, memWrite2_stop_first v h', andThen_accessStop]
  exact accessStop_congr _ _ rfl

theorem push16_then_stop_second {β : Type} {s : State} (v : Word) (h1 : Accessible s (s.sp - 2))
    (h2 : ¬ Accessible s (s.sp - 2 + 1)) (k : State → Result β) :
    andThen (push16 v s) k = accessStop (s.sp - 2 + 1) .write s := by
  have h1' : Accessible { s with sp := s.sp - 2 } (s.sp - 2) := h1
  have h2' : ¬ Accessible { s with sp := s.sp - 2 } (s.sp - 2 + 1) := h2
  rw [push16, memWrite2_stop_second v h1' h2', andThen_accessStop]
  exact accessStop_congr _ _ rfl

theorem pop16_then {β : Type} {s : State} (h : Accessible2 s s.sp) (k : Word × State → Result β) :
    andThen (pop16 s) k = k (readValue2 s.sp s, { afterRead2 s.sp s with sp := s.sp + 2 }) := by
  rw [pop16, memRead2_accessible h, andThen_of_next, andThen_of_next]
  simp [afterRead2]

theorem pop16_then_stop_first {β : Type} {s : State} (h : ¬ Accessible s s.sp) (k : Word × State → Result β) :
    andThen (pop16 s) k = accessStop s.sp .read s := by
  rw [pop16, memRead2_stop_first h, andThen_accessStop, andThen_accessStop]

theorem pop16_then_stop_second {β : Type} {s : State} (h1 : Accessible s s.sp) (h2 : ¬ Accessible s (s.sp + 1))
    (k : Word × State → Result β) : andThen (pop16 s) k = accessStop (s.sp + 1) .read s := by
  rw [pop16, memRead2_stop_second h1 h2, andThen_accessStop, andThen_accessStop]

/-! ## 8-bit loads (43_load8.md) -/

/-- Settles O22: the two forms read and write registers alone. -/
theorem registerLoads : Obligations.RegisterLoads :=
  ⟨fun dst src s => ⟨encode_instr (.ldRegReg dst src), exec_instr (.ldRegReg dst src) s⟩,
    fun dst n s => ⟨encode_instr (.ldRegImm dst n), exec_instr (.ldRegImm dst n) s⟩⟩

/-- Settles O23: each form makes one access, at `HL`. -/
theorem loadsAndStoresThroughHl : Obligations.LoadsAndStoresThroughHl := by
  refine ⟨fun dst s => ⟨encode_instr (.ldRegMem dst), fun h => ?_, fun h => ?_⟩,
    fun src s => ⟨encode_instr (.ldMemReg src), fun h => ?_, fun h => ?_⟩,
    fun n s => ⟨encode_instr (.ldMemImm n), fun h => ?_, fun h => ?_⟩⟩
  · exact (exec_instr (.ldRegMem dst) s).trans (memRead_then h _)
  · exact (exec_instr (.ldRegMem dst) s).trans (memRead_then_stop h _)
  · exact (exec_instr (.ldMemReg src) s).trans (memWrite_then h _ _)
  · exact (exec_instr (.ldMemReg src) s).trans (memWrite_then_stop h _ _)
  · exact memWrite_then h _ _
  · exact memWrite_then_stop h _ _

/-- Settles O24: each of the five rows is one read of its effective address. -/
theorem accumulatorLoads : Obligations.AccumulatorLoads := by
  intro s nn n row hrow
  simp only [List.mem_cons, List.not_mem_nil, or_false] at hrow
  obtain rfl | rfl | rfl | rfl | rfl := hrow <;>
    exact ⟨rfl, fun h => memRead_then h _, fun h => memRead_then_stop h _⟩

/-- Settles O25: each of the five rows is one write to its effective address. -/
theorem accumulatorStores : Obligations.AccumulatorStores := by
  intro s nn n row hrow
  simp only [List.mem_cons, List.not_mem_nil, or_false] at hrow
  obtain rfl | rfl | rfl | rfl | rfl := hrow <;>
    exact ⟨rfl, fun h => memWrite_then h _ _, fun h => memWrite_then_stop h _ _⟩

theorem pair_afterWrite (a : Word) (v : Byte) (s : State) (rr : Reg16) : (afterWrite a v s).pair rr = s.pair rr := by
  cases rr <;> simp [State.pair]

/-- The load into `A` and the change of `portReads` leave `HL`, which the access then moves. -/
theorem pair_hl_loadA (a : Word) (v : Byte) (s : State) : ((afterRead a s).setReg .a v).pair .hl = s.pair .hl := by
  simp [State.pair, State.setReg]

/-- Settles O26: the four rows are the accesses through a moving `HL`, and the access leaves the `HL` that is moved. -/
theorem postIncrementAndDecrementLoads : Obligations.PostIncrementAndDecrementLoads := by
  intro s
  refine ⟨⟨rfl, rfl, rfl, rfl⟩, fun h => ?completes, fun h => ?stops⟩
  case completes =>
    have hst (p : Ptr) (hp : s.ptrAddr p = s.pair .hl) : execForm (.ldPtrA p) s = _ :=
      memWrite_then (s := s) (a := s.ptrAddr p) (hp ▸ h) _ _
    have hld (p : Ptr) (hp : s.ptrAddr p = s.pair .hl) : execForm (.ldAPtr p) s = _ :=
      memRead_then (s := s) (a := s.ptrAddr p) (hp ▸ h) _
    refine ⟨(hst .hlInc rfl).trans ?_, (hld .hlInc rfl).trans ?_, (hst .hlDec rfl).trans ?_,
      (hld .hlDec rfl).trans ?_⟩ <;>
      simp only [State.ptrAfter, State.ptrAddr, pair_afterWrite, pair_hl_loadA, finish]
  case stops =>
    exact ⟨memWrite_then_stop h _ _, memRead_then_stop h _, memWrite_then_stop h _ _, memRead_then_stop h _⟩

/-! ## 16-bit loads and the stack (44_load16_stack.md) -/

/-- Settles O27: the first two forms write registers alone, the third is one two-byte write. -/
theorem sixteenBitLoads : Obligations.SixteenBitLoads := by
  refine ⟨fun rr nn s => ⟨encode_instr (.ldPairImm rr nn), exec_instr (.ldPairImm rr nn) s⟩, fun s => ⟨rfl, rfl⟩,
    fun nn s => ⟨rfl, fun h => ?_, fun h => ?_, fun h1 h2 => ?_⟩⟩ <;>
    refine (exec_instr (.ldAbsSp nn) s).trans ?_ <;> rw [execForm, doLdAbsSp]
  · rw [memWrite2_accessible _ h]
    rfl
  · rw [memWrite2_stop_first _ h, andThen_accessStop]
  · rw [memWrite2_stop_second _ h1 h2, andThen_accessStop]

theorem toNat_sext16 (e : Byte) : (sext16 e).toNat = if e.toNat < 128 then e.toNat else 0xFF00 + e.toNat := by
  revert e
  decide

/-- Settles O28: both rows are `Add16` on `SP` and the extended byte. -/
theorem stackPointerOffsets : Obligations.StackPointerOffsets :=
  fun e s => ⟨rfl, rfl, exec_instr (.addSpE e) s, exec_instr (.ldHlSpE e) s, toNat_sext16 e⟩

/-- Settles O29: `PUSH` is one push and `POP` one pop, each with the stops of its two accesses in order. -/
theorem pushAndPop : Obligations.PushAndPop := by
  refine ⟨fun q s => ⟨encode_instr (.push q), fun h => ?_, fun h => ?_, fun h1 h2 => ?_⟩,
    fun q s => ⟨encode_instr (.pop q), fun h => ?_, fun h => ?_, fun h1 h2 => ?_⟩⟩
  · exact (exec_instr (.push q) s).trans (push16_then _ h _)
  · exact (exec_instr (.push q) s).trans (push16_then_stop_first _ h _)
  · exact (exec_instr (.push q) s).trans (push16_then_stop_second _ h1 h2 _)
  · exact (exec_instr (.pop q) s).trans (pop16_then h _)
  · exact (exec_instr (.pop q) s).trans (pop16_then_stop_first h _)
  · exact (exec_instr (.pop q) s).trans (pop16_then_stop_second h1 h2 _)

/-! ## 8-bit arithmetic and logic (40_alu8.md) -/

theorem alu_eq_aluAsRuled (op : AluOp) (v : Byte) (s : State) : s.alu op v = aluAsRuled op v s := by cases op <;> rfl

/-- Settles O30: the operation of the form, on the register's byte. -/
theorem aluOnARegister : Obligations.AluOnARegister := by
  intro op r s
  refine ⟨encode_instr (.aluReg op r), ?_⟩
  rw [← alu_eq_aluAsRuled]
  exact exec_instr (.aluReg op r) s

/-- Settles O31: one read of `HL`, then the operation on the byte read. -/
theorem aluOnTheByteAtHl : Obligations.AluOnTheByteAtHl := by
  intro op s
  refine ⟨encode_instr (.aluMem op), fun h => ?_, fun h => (exec_instr (.aluMem op) s).trans (memRead_then_stop h _)⟩
  rw [← alu_eq_aluAsRuled]
  exact (exec_instr (.aluMem op) s).trans (memRead_then h _)

/-- Settles O32: the operation of the form, on the immediate. -/
theorem aluOnAnImmediate : Obligations.AluOnAnImmediate := by
  intro op n s
  refine ⟨encode_instr (.aluImm op n), ?_⟩
  rw [← alu_eq_aluAsRuled]
  exact exec_instr (.aluImm op n) s

theorem and_0x0F_eq_iff (x y : Byte) : x &&& 0x0F = y ↔ x.toNat % 16 = y.toNat := by
  rw [← BitVec.toNat_inj, BitVec.toNat_and]
  exact Eq.congr_left (Nat.and_two_pow_sub_one_eq_mod x.toNat 4)

theorem flagC_afterRead (a : Word) (s : State) : (afterRead a s).flagC = s.flagC := by simp [State.flagC]

theorem flagC_afterWrite (a : Word) (v : Byte) (s : State) : (afterWrite a v s).flagC = s.flagC := by simp [State.flagC]

/-- HalfCarry of `INC` by the masked low nibble, as the rule writes it (40_alu8.md R140). -/
theorem setIncFlags_eq (s : State) (x : Byte) :
    s.setIncFlags x = s.setFlags (decide (x + 1 = 0#8)) false (decide (x &&& 0x0F = 0x0F#8)) s.flagC := by
  simp only [State.setIncFlags, and_0x0F_eq_iff]
  rfl

theorem setDecFlags_eq (s : State) (x : Byte) :
    s.setDecFlags x = s.setFlags (decide (x - 1 = 0#8)) true (decide (x &&& 0x0F = 0#8)) s.flagC := by
  simp only [State.setDecFlags, and_0x0F_eq_iff]
  rfl

/-- Settles O33: a register is changed in place; so is the byte at `HL`, by one read and one write. -/
theorem incrementAndDecrementOfAByte : Obligations.IncrementAndDecrementOfAByte := by
  refine ⟨fun r s => ⟨encode_instr (.incReg r), encode_instr (.decReg r), ?incReg, ?decReg⟩,
    fun s => ⟨rfl, rfl, fun h => ⟨?incMem, ?decMem⟩, fun h => ⟨memRead_then_stop h _, memRead_then_stop h _⟩⟩⟩
  case incReg =>
    refine (exec_instr (.incReg r) s).trans ?_
    rw [execForm, doIncReg, setIncFlags_eq, flagC_setReg, finish]
  case decReg =>
    refine (exec_instr (.decReg r) s).trans ?_
    rw [execForm, doDecReg, setDecFlags_eq, flagC_setReg, finish]
  case incMem =>
    refine (memUpdate_then h (· + 1) fun x t => finish 3 (t.setIncFlags x)).trans ?_
    rw [setIncFlags_eq, flagC_afterWrite, flagC_afterRead, finish]
  case decMem =>
    refine (memUpdate_then h (· - 1) fun x t => finish 3 (t.setDecFlags x)).trans ?_
    rw [setDecFlags_eq, flagC_afterWrite, flagC_afterRead, finish]

/-- The two halves of the adjustment of `DAA` share no bit, so they add up (40_alu8.md R144). -/
theorem toNat_daaHalves (low high : Bool) :
    ((if low then 0x06#8 else 0#8) ||| (if high then 0x60#8 else 0#8)).toNat =
      (if low = true then 0x06 else 0) + (if high = true then 0x60 else 0) := by
  cases low <;> cases high <;> rfl

/-- Settles O34: `DAA` adds or subtracts its adjustment by the flag N; the other three rows read and write flags and `A`
alone. -/
theorem decimalAdjustComplementAndCarryFlag : Obligations.DecimalAdjustComplementAndCarryFlag := by
  intro s
  refine ⟨⟨rfl, rfl, rfl, rfl⟩, fun hn => ?add, fun hn => ?sub, rfl, rfl, rfl⟩
  case add =>
    refine ⟨daaAdjust s.regs.a false s.flagH s.flagC, daaResult s.regs.a false s.flagH s.flagC,
      daaCarry s.regs.a false s.flagC, ?_, ?_, by simp [daaCarry], ?_⟩
    · rw [daaAdjust, toNat_daaHalves]
      simp
    · simp [daaResult, BitVec.toNat_add]
    · exact (exec_instr .daa s).trans (by simp only [execForm, doDaa, hn, finish])
  case sub =>
    refine ⟨daaAdjust s.regs.a true s.flagH s.flagC, daaResult s.regs.a true s.flagH s.flagC, ?_, ?_, ?_⟩
    · rw [daaAdjust, toNat_daaHalves]
      simp
    · have hlt := (daaAdjust s.regs.a true s.flagH s.flagC).isLt
      simp only [daaResult, if_true, BitVec.toNat_sub]
      omega
    · exact (exec_instr .daa s).trans (by simp only [execForm, doDaa, hn, finish, daaCarry, if_true])

/-! ## 16-bit arithmetic (41_alu16.md) -/

theorem res_add16 (x y : Word) : (add16 x y).res = x + y := by rw [add16, BitVec.ofNat_add]; simp

/-- Settles O35: the result of `Add16` is the sum mod 2^16, and Zero is decided on it. -/
theorem addPairToHl : Obligations.AddPairToHl := by
  intro rr s
  refine ⟨encode_instr (.addHl rr), ?_⟩
  rw [← res_add16]
  exact exec_instr (.addHl rr) s

/-- Settles O36: the two forms write the pair alone. -/
theorem incrementAndDecrementOfAPair : Obligations.IncrementAndDecrementOfAPair :=
  fun rr s => ⟨encode_instr (.incPair rr), encode_instr (.decPair rr), exec_instr (.incPair rr) s,
    exec_instr (.decPair rr) s⟩

/-! ## Rotates, shifts, bits (42_rotate_shift_bit.md) -/

/-- Settles O37: the carry-out of each transform is the bit it moves out. -/
theorem accumulatorRotates : Obligations.AccumulatorRotates :=
  fun s => ⟨⟨rfl, rfl, rfl, rfl⟩, exec_instr (.accRot .rlca) s, exec_instr (.accRot .rla) s,
    exec_instr (.accRot .rrca) s, exec_instr (.accRot .rra) s⟩

/-- Settles O38: the form changes one register in place and writes the flags of the transform. -/
theorem rotatesAndShiftsOfARegister : Obligations.RotatesAndShiftsOfARegister :=
  fun op r s => ⟨encode_instr (.rotReg op r), exec_instr (.rotReg op r) s⟩

/-- Settles O39: the byte at `HL` is changed in place by one read and one write. -/
theorem rotatesAndShiftsOfTheByteAtHl : Obligations.RotatesAndShiftsOfTheByteAtHl := by
  intro op s
  refine ⟨encode_instr (.rotMem op), fun h => ?_, fun h => (exec_instr (.rotMem op) s).trans (memRead_then_stop h _)⟩
  exact (exec_instr (.rotMem op) s).trans
    (memUpdate_then h (fun x => (rotate op x s.flagC).res) fun x t => finish 4 (t.setRotFlags (rotate op x s.flagC)))

/-- Settles O40: `BIT` reads a byte and writes the flags of the tested bit. -/
theorem bitTests : Obligations.BitTests := by
  refine ⟨fun b r s => ⟨encode_instr (.bitReg b r), ?_⟩,
    fun b s => ⟨encode_instr (.bitMem b), fun h => ?_, fun h => ?_⟩⟩
  · rw [Bool.decide_eq_false]
    exact exec_bitReg b r s
  · rw [Bool.decide_eq_false]
    exact (exec_instr (.bitMem b) s).trans (memRead_then h _)
  · exact (exec_instr (.bitMem b) s).trans (memRead_then_stop h _)

/-- Settles O41: `RES` and `SET` change one byte in place, in a register or at `HL`. -/
theorem bitResetsAndSets : Obligations.BitResetsAndSets := by
  refine ⟨fun b r s => ⟨encode_instr (.resReg b r), encode_instr (.setReg b r), exec_resReg b r s, exec_setReg b r s⟩,
    fun b s => ⟨encode_instr (.resMem b), encode_instr (.setMem b), fun h => ⟨?_, ?_⟩, fun h => ⟨?_, ?_⟩⟩⟩
  · exact (exec_instr (.resMem b) s).trans (memUpdate_then h (clearBit b) fun _ t => finish 4 t)
  · exact (exec_instr (.setMem b) s).trans (memUpdate_then h (raiseBit b) fun _ t => finish 4 t)
  · exact (exec_instr (.resMem b) s).trans (memRead_then_stop h _)
  · exact (exec_instr (.setMem b) s).trans (memRead_then_stop h _)

/-! ## Control transfer (45_control.md) -/

/-- Settles O43: a jump writes `PC` alone, and only where its condition holds. -/
theorem jumps : Obligations.Jumps := by
  intro s nn e cc
  refine ⟨⟨rfl, rfl, rfl, encode_instr (.jpCc cc nn), encode_instr (.jrCc cc e)⟩, rfl, rfl, rfl, fun h => ⟨?_, ?_⟩,
    fun h => ⟨?_, ?_⟩, rfl, rfl, rfl, rfl⟩
  · exact (exec_instr (.jpCc cc nn) s).trans (if_pos h)
  · exact (exec_instr (.jrCc cc e) s).trans (if_pos h)
  · exact (exec_instr (.jpCc cc nn) s).trans (if_neg (by simp [h]))
  · exact (exec_instr (.jrCc cc e) s).trans (if_neg (by simp [h]))

theorem exec_callCc_taken {s : State} {cc : Cond} (h : s.holds cc = true) (nn : Word) :
    exec (Form.callCc cc nn).instr s = exec (.call_nn nn) s :=
  (exec_instr (.callCc cc nn) s).trans (if_pos h)

/-- Settles O44: a taken call and a restart are one push of `PC`, then a jump. -/
theorem callsAndRestarts : Obligations.CallsAndRestarts := by
  intro s nn cc t
  have hrst := exec_instr (.rst t) s
  refine ⟨⟨rfl, encode_instr (.callCc cc nn), encode_instr (.rst t)⟩, fun h => ?completes, fun h => ?notTaken,
    fun h => ?stopFirst, fun h1 h2 => ?stopSecond⟩
  case completes =>
    have hcall : exec (.call_nn nn) s = _ := push16_then s.pc h _
    exact ⟨hcall, fun hcc => (exec_callCc_taken hcc nn).trans hcall, hrst.trans (push16_then s.pc h _)⟩
  case notTaken => exact (exec_instr (.callCc cc nn) s).trans (if_neg (by simp [h]))
  case stopFirst =>
    have hcall : exec (.call_nn nn) s = _ := push16_then_stop_first s.pc h _
    exact ⟨hcall, hrst.trans (push16_then_stop_first s.pc h _), fun hcc => (exec_callCc_taken hcc nn).trans hcall⟩
  case stopSecond =>
    have hcall : exec (.call_nn nn) s = _ := push16_then_stop_second s.pc h1 h2 _
    exact ⟨hcall, hrst.trans (push16_then_stop_second s.pc h1 h2 _), fun hcc => (exec_callCc_taken hcc nn).trans hcall⟩

theorem exec_retCc_taken {s : State} {cc : Cond} (h : s.holds cc = true) :
    exec (Form.retCc cc).instr s = andThen (pop16 s) fun p => finish 5 { p.2 with pc := p.1 } :=
  (exec_instr (.retCc cc) s).trans (if_pos h)

theorem exec_reti_eq_pop (s : State) :
    exec .reti s = andThen (pop16 s) fun p => finish 4 { p.2 with pc := p.1, ime := true } := by
  refine (exec_instr .reti s).trans ?_
  rw [execForm, doReti, returnFromInterrupt]
  cases pop16 s <;> rfl

/-- Settles O45: a taken return is one pop into `PC`. -/
theorem returns : Obligations.Returns := by
  intro s cc
  refine ⟨⟨rfl, rfl, encode_instr (.retCc cc)⟩, fun h => ⟨pop16_then h _, fun hcc => ?_, ?_⟩, fun h => ?notTaken,
    fun h => ⟨pop16_then_stop_first h _, ?_, fun hcc => ?_⟩,
    fun h1 h2 => ⟨pop16_then_stop_second h1 h2 _, ?_, fun hcc => ?_⟩⟩
  · exact (exec_retCc_taken hcc).trans (pop16_then h _)
  · exact (exec_reti_eq_pop s).trans (pop16_then h _)
  case notTaken => exact (exec_instr (.retCc cc) s).trans (if_neg (by simp [h]))
  · exact (exec_reti_eq_pop s).trans (pop16_then_stop_first h _)
  · exact (exec_retCc_taken hcc).trans (pop16_then_stop_first h _)
  · exact (exec_reti_eq_pop s).trans (pop16_then_stop_second h1 h2 _)
  · exact (exec_retCc_taken hcc).trans (pop16_then_stop_second h1 h2 _)

/-! ## System instructions (46_system.md) -/

/-- Settles O48: the form writes `halted` alone. -/
theorem haltStops : Obligations.HaltStops := fun s => ⟨encode_instr .halt, exec_instr .halt s⟩

/-- Settles O49: each form writes its timer alone. -/
theorem diAndEiArmTheirTimers : Obligations.DiAndEiArmTheirTimers :=
  fun s => ⟨encode_instr .di, encode_instr .ei, exec_instr .di s, exec_instr .ei s⟩

end Sys2Proof.Machine
end

section
/-! The address decode row by row (20_memory.md), construction (70_reset_and_hazards.md R331), push and pop. -/

namespace Sys2Proof.Machine

/-! ## The rows of the decode (20_memory.md R41, R43 to R49) -/

section
variable {s : State} {a : Word} {k : Nat}

theorem placeOf_rom {n : Nat} (h1 : a.toNat < 0x8000) (h2 : a.toNat < n) : placeOf n a = .cell a.toNat := by
  simp only [placeOf, if_pos h1, if_pos h2]

theorem placeOf_beyondImage {n : Nat} (h1 : a.toNat < 0x8000) (h2 : n ≤ a.toNat) : placeOf n a = .beyondImage := by
  simp only [placeOf, if_pos h1, if_neg (Nat.not_lt.2 h2)]

theorem placeOf_videoRam (n : Nat) (h1 : 0x8000 ≤ a.toNat) (h2 : a.toNat < 0xA000) : placeOf n a = .cell a.toNat := by
  simp (disch := omega) only [placeOf, if_neg, if_pos]

theorem placeOf_externalRam (n : Nat) (h1 : 0xA000 ≤ a.toNat) (h2 : a.toNat < 0xC000) : placeOf n a = .unallocated := by
  simp (disch := omega) only [placeOf, if_neg, if_pos]

theorem placeOf_spriteMemory (n : Nat) (h1 : 0xFE00 ≤ a.toNat) (h2 : a.toNat < 0xFF00) :
    placeOf n a = .unimplemented := by
  simp (disch := omega) only [placeOf, if_neg, if_pos]

theorem placeOf_timerPort (n : Nat) (h : a = 0xFF05 ∨ a = 0xFF06 ∨ a = 0xFF07) : placeOf n a = .timerPort := by
  obtain rfl | rfl | rfl := h <;> rfl

theorem placeOf_unhandledPort (n : Nat) (h1 : 0xFF00 ≤ a.toNat) (h2 : a.toNat < 0xFF80) (h5 : a ≠ 0xFF05)
    (h6 : a ≠ 0xFF06) (h7 : a ≠ 0xFF07) (hF : a ≠ 0xFF0F) : placeOf n a = .unimplemented := by
  have hports : ¬ (0xFF05 ≤ a.toNat ∧ a.toNat ≤ 0xFF07) := by bv_omega
  have hflag : a.toNat ≠ 0xFF0F := by bv_omega
  simp (disch := omega) only [placeOf, if_neg, if_pos, hports, hflag, if_false]

theorem placeOf_highRam (n : Nat) (h : 0xFF80 ≤ a.toNat) : placeOf n a = .cell a.toNat := by
  simp (disch := omega) only [placeOf, if_neg]

/-! ## The port at each place -/

theorem memRead_cell (h : placeOf s.romLength a = .cell k) : memRead a s = .next (s.mem.get k, s) := by
  simp only [memRead, h]

theorem memRead_unimplemented (h : placeOf s.romLength a = .unimplemented) :
    memRead a s = .fault (.unimplementedRegion a .read) := by simp only [memRead, h, raise]

theorem memRead_unallocated (h : placeOf s.romLength a = .unallocated) :
    memRead a s = .fault (.unallocatedExternalRam a .read) := by simp only [memRead, h, raise]

theorem memRead_beyondImage (h : placeOf s.romLength a = .beyondImage) :
    memRead a s = .refused (.beyondRomImage a .read) := by simp only [memRead, h]

theorem memWrite_cell (v : Byte) (h : placeOf s.romLength a = .cell k) :
    memWrite a v s = .next { s with mem := s.mem.set k v } := by simp only [memWrite, h]

theorem memWrite_unimplemented (v : Byte) (h : placeOf s.romLength a = .unimplemented) :
    memWrite a v s = .fault (.unimplementedRegion a .write) := by simp only [memWrite, h, raise]

theorem memWrite_unallocated (v : Byte) (h : placeOf s.romLength a = .unallocated) :
    memWrite a v s = .fault (.unallocatedExternalRam a .write) := by simp only [memWrite, h, raise]

theorem memWrite_beyondImage (v : Byte) (h : placeOf s.romLength a = .beyondImage) :
    memWrite a v s = .refused (.beyondRomImage a .write) := by simp only [memWrite, h]

end

/-- Settles O14: each clause is the port at the place of its row. -/
theorem readsFollowTheAddressDecode : Obligations.ReadsFollowTheAddressDecode := by
  intro s a
  refine ⟨fun h1 h2 => memRead_cell (placeOf_rom h1 h2), fun h1 h2 => memRead_beyondImage (placeOf_beyondImage h1 h2),
    fun h1 h2 => memRead_cell (placeOf_videoRam _ h1 h2),
    fun h1 h2 => memRead_unallocated (placeOf_externalRam _ h1 h2),
    fun h1 h2 => memRead_cell (placeOf_workingRam _ h1 h2), fun h1 h2 => memRead_cell (placeOf_echoRow _ h1 h2),
    fun h1 h2 => memRead_unimplemented (placeOf_spriteMemory _ h1 h2),
    fun h => ⟨Config.timerPortByte s.portReads, ?timer⟩, fun h => ?flag,
    fun h1 h2 h5 h6 h7 hF => memRead_unimplemented (placeOf_unhandledPort _ h1 h2 h5 h6 h7 hF),
    fun h => memRead_cell (placeOf_highRam _ h)⟩
  case timer => simp only [memRead, placeOf_timerPort _ h]
  case flag => simp only [memRead, (placeOf_eq_interruptFlag_iff _ _).2 h]

/-- Settles O15: each clause is the port at the place of its row. -/
theorem writesFollowTheAddressDecode : Obligations.WritesFollowTheAddressDecode := by
  intro s a v
  refine ⟨fun h1 h2 => memWrite_cell v (placeOf_rom h1 h2),
    fun h1 h2 => memWrite_beyondImage v (placeOf_beyondImage h1 h2),
    fun h1 h2 => memWrite_cell v (placeOf_videoRam _ h1 h2),
    fun h1 h2 => memWrite_unallocated v (placeOf_externalRam _ h1 h2),
    fun h1 h2 => memWrite_cell v (placeOf_workingRam _ h1 h2), fun h1 h2 => memWrite_cell v (placeOf_echoRow _ h1 h2),
    fun h1 h2 => memWrite_unimplemented v (placeOf_spriteMemory _ h1 h2), fun h => ?timer, fun h => ?flag,
    fun h1 h2 h5 h6 h7 hF => memWrite_unimplemented v (placeOf_unhandledPort _ h1 h2 h5 h6 h7 hF),
    fun h => memWrite_cell v (placeOf_highRam _ h)⟩
  case timer => simp only [memWrite, placeOf_timerPort _ h]
  case flag => simp only [memWrite, (placeOf_eq_interruptFlag_iff _ _).2 h]

/-! ## Construction -/

/-- The cells of a loaded memory are the old ones and those of the block. -/
theorem mem_of_mem_load {x : Host.Cell} (bytes : List Byte) {m : Memory} {base : Nat}
    (h : x ∈ Memory.load m base bytes) : x ∈ m ∨ (base ≤ x.1 ∧ x.1 < base + bytes.length) := by
  induction bytes generalizing m base with
  | nil => exact .inl h
  | cons v rest ih =>
    rw [List.length_cons]
    obtain hset | hrest := ih h
    · obtain hm | rfl := Memory.mem_set _ _ _ _ hset
      · exact .inl hm
      · exact .inr (by simp)
    · exact .inr (by omega)

theorem getD_take {α : Type} (l : List α) {j n : Nat} (d : α) (h : j < n) : (l.take n).getD j d = l.getD j d := by
  simp [List.getD_eq_getElem?_getD, List.getElem?_take_of_lt h]

theorem ownsByte_of_range {k : Nat} (h : k < 0xA000 ∨ (0xC000 ≤ k ∧ k < 0xE000) ∨ (0xFF80 ≤ k ∧ k < 0x10000)) :
    ownsByte k = true := by
  simp only [ownsByte, Bool.or_eq_true, Bool.and_eq_true, decide_eq_true_eq]
  omega

section
variable (image vram wram hram : List Byte)

/-- The memory of a session under construction after its image (20_memory.md R42). -/
def imageMem : Memory := Memory.load [] 0 (image.take 0x8000)

/-- The same after the bytes of Video RAM. -/
def videoMem : Memory := Memory.load (imageMem image) 0x8000 (vram.take 0x2000)

/-- The same after the bytes of Working RAM. -/
def workMem : Memory := Memory.load (videoMem image vram) 0xC000 (wram.take 0x2000)

/-- The same after the bytes of high RAM, which are the last. -/
def builtMem : Memory := Memory.load (workMem image vram wram) 0xFF80 (hram.take 0x80)

theorem mem_construct (ioIf : Byte) :
    (State.construct image vram wram hram ioIf).mem = builtMem image vram wram hram := rfl

theorem owns_image (k : Nat) (_ : 0 ≤ k) (h : k < 0 + (image.take 0x8000).length) : ownsByte k = true := by
  simp only [List.length_take] at h
  exact ownsByte_of_range (by omega)

theorem owns_video (k : Nat) (_ : 0x8000 ≤ k) (h2 : k < 0x8000 + (vram.take 0x2000).length) : ownsByte k = true := by
  simp only [List.length_take] at h2
  exact ownsByte_of_range (by omega)

theorem owns_work (k : Nat) (h1 : 0xC000 ≤ k) (h2 : k < 0xC000 + (wram.take 0x2000).length) : ownsByte k = true := by
  simp only [List.length_take] at h2
  exact ownsByte_of_range (by omega)

theorem owns_high (k : Nat) (h1 : 0xFF80 ≤ k) (h2 : k < 0xFF80 + (hram.take 0x80).length) : ownsByte k = true := by
  simp only [List.length_take] at h2
  exact ownsByte_of_range (by omega)

theorem wf_imageMem : (imageMem image).wf = true := Memory.wf_load _ _ _ rfl (owns_image image)
theorem wf_videoMem : (videoMem image vram).wf = true := Memory.wf_load _ _ _ (wf_imageMem image) (owns_video vram)
theorem wf_workMem : (workMem image vram wram).wf = true :=
  Memory.wf_load _ _ _ (wf_videoMem image vram) (owns_work wram)
theorem wf_builtMem : (builtMem image vram wram hram).wf = true :=
  Memory.wf_load _ _ _ (wf_workMem image vram wram) (owns_high hram)

/-- High RAM is loaded above every other block. -/
theorem get_builtMem_of_lt {k : Nat} (h : k < 0xFF80) :
    (builtMem image vram wram hram).get k = (workMem image vram wram).get k :=
  Memory.get_load_other _ _ _ _ (wf_workMem image vram wram) (owns_high hram) (.inl h)

theorem get_workMem_of_lt {k : Nat} (h : k < 0xC000) : (workMem image vram wram).get k = (videoMem image vram).get k :=
  Memory.get_load_other _ _ _ _ (wf_videoMem image vram) (owns_work wram) (.inl h)

theorem get_videoMem_of_lt {k : Nat} (h : k < 0x8000) : (videoMem image vram).get k = (imageMem image).get k :=
  Memory.get_load_other _ _ _ _ (wf_imageMem image) (owns_video vram) (.inl h)

theorem get_builtMem_image {k : Nat} (h : k < image.length) (hk : k < 0x8000) :
    (builtMem image vram wram hram).get k = image.getD k 0 := by
  rw [get_builtMem_of_lt _ _ _ _ (by omega), get_workMem_of_lt _ _ _ (by omega), get_videoMem_of_lt _ _ hk, imageMem,
    ← getD_take image 0 hk]
  simpa using Memory.get_load_same _ _ 0 k rfl (owns_image image) (by simp; omega)

theorem get_builtMem_video {k : Nat} (h : k < vram.length) (hk : k < 0x2000) :
    (builtMem image vram wram hram).get (0x8000 + k) = vram.getD k 0 := by
  rw [get_builtMem_of_lt _ _ _ _ (by omega), get_workMem_of_lt _ _ _ (by omega), ← getD_take vram 0 hk]
  exact Memory.get_load_same _ _ _ k (wf_imageMem image) (owns_video vram) (by simp; omega)

theorem get_builtMem_work {k : Nat} (h : k < wram.length) (hk : k < 0x2000) :
    (builtMem image vram wram hram).get (0xC000 + k) = wram.getD k 0 := by
  rw [get_builtMem_of_lt _ _ _ _ (by omega), ← getD_take wram 0 hk]
  exact Memory.get_load_same _ _ _ k (wf_videoMem image vram) (owns_work wram) (by simp; omega)

theorem get_builtMem_high {k : Nat} (h : k < hram.length) (hk : k < 0x80) :
    (builtMem image vram wram hram).get (0xFF80 + k) = hram.getD k 0 := by
  rw [← getD_take hram 0 hk]
  exact Memory.get_load_same _ _ _ k (wf_workMem image vram wram) (owns_high hram) (by simp; omega)

/-- The ROM cells of a constructed session are within its image. -/
theorem lt_length_of_mem_builtMem {c : Host.Cell} (hc : c ∈ builtMem image vram wram hram) (hlt : c.1 < 0x8000) :
    c.1 < image.length := by
  obtain hc | hrange := mem_of_mem_load _ hc
  · obtain hc | hrange := mem_of_mem_load _ hc
    · obtain hc | hrange := mem_of_mem_load _ hc
      · obtain hc | hrange := mem_of_mem_load _ hc
        · cases hc
        · simp only [List.length_take] at hrange
          omega
      · omega
    · omega
  · omega

theorem memoryOk_construct (ioIf : Byte) : MemoryOk (State.construct image vram wram hram ioIf) :=
  ⟨wf_builtMem image vram wram hram, fun _ => lt_length_of_mem_builtMem image vram wram hram, List.length_drop⟩

end

theorem storedByte_cell {s : State} {a : Word} {k : Nat} (h : placeOf s.romLength a = .cell k) :
    storedByte a s = some (s.mem.get k) := by rw [storedByte, h]

theorem toNat_ofNat_word {k : Nat} (h : k < 0x10000) : (BitVec.ofNat 16 k).toNat = k := by
  rw [BitVec.toNat_ofNat, Nat.mod_eq_of_lt h]

/-- Settles O10: the reset state is a literal. -/
theorem theInvariantHoldsAtReset : Obligations.TheInvariantHoldsAtReset := by
  unfold Obligations.TheInvariantHoldsAtReset
  decide

/-- Construction gives the CPU its reset values and a memory of its own. -/
theorem inv_construct (image vram wram hram : List Byte) (ioIf : Byte) :
    Inv (State.construct image vram wram hram ioIf) := by
  obtain ⟨hlow, htimers, -, hcycles, hfault⟩ := theInvariantHoldsAtReset
  exact ⟨hlow, htimers, memoryOk_construct image vram wram hram ioIf, hcycles, hfault⟩

/-- Settles O12: the decode sends each address of a block to the cell that construction loaded, and the four blocks do
not overlap. -/
theorem constructionPlacesImageAndRam : Obligations.ConstructionPlacesImageAndRam := by
  intro image vram wram hram ioIf
  refine ⟨inv_construct image vram wram hram ioIf, rfl, rfl, fun k h hk => ?_,
    fun k h hk => ?_, fun k h hk => ?_, fun k h hk => ?_, rfl⟩
  · have hn : (BitVec.ofNat 16 k).toNat = k := toNat_ofNat_word (by omega)
    rw [storedByte_cell (placeOf_rom (by omega) (by rw [hn]; exact h)), hn, mem_construct,
      get_builtMem_image _ _ _ _ h hk]
  · have hn : (BitVec.ofNat 16 (0x8000 + k)).toNat = 0x8000 + k := toNat_ofNat_word (by omega)
    rw [storedByte_cell (placeOf_videoRam _ (by omega) (by omega)), hn, mem_construct, get_builtMem_video _ _ _ _ h hk]
  · have hn : (BitVec.ofNat 16 (0xC000 + k)).toNat = 0xC000 + k := toNat_ofNat_word (by omega)
    rw [storedByte_cell (placeOf_workingRam _ (by omega) (by omega)), hn, mem_construct, get_builtMem_work _ _ _ _ h hk]
  · have hn : (BitVec.ofNat 16 (0xFF80 + k)).toNat = 0xFF80 + k := toNat_ofNat_word (by omega)
    rw [storedByte_cell (placeOf_highRam _ (by omega)), hn, mem_construct, get_builtMem_high _ _ _ _ h hk]

/-! ## The stack's round trip (44_load16_stack.md R247, 45_control.md R265, R270) -/

/-- A pop gives the word just pushed in any state that keeps the push's memory and `SP`. -/
theorem pop16_of_pushed {s t : State} {v : Word} (hm : MemoryOk s) (hhi : storedByte (s.sp - 2) s ≠ none)
    (hlo : storedByte (s.sp - 2 + 1) s ≠ none) (hsp : t.sp = s.sp - 2) (hmem : t.mem = (afterWrite2 (s.sp - 2) v s).mem)
    (hio : t.ioIf = (afterWrite2 (s.sp - 2) v s).ioIf) (hrom : t.romLength = s.romLength) :
    pop16 t = .next (v, { t with sp := s.sp }) := by
  have hrom' : t.romLength = (afterWrite2 (s.sp - 2) v s).romLength := by rw [hrom]; simp [afterWrite2]
  obtain ⟨hhi', hlo'⟩ := storedBytes_afterWrite2 v hm hhi hlo
  have hread : memRead2 t.sp t = .next (v, t) := by
    rw [hsp, memRead2_of_stored ((storedByte_congr _ hmem hio hrom').trans hhi')
      ((storedByte_congr _ hmem hio hrom').trans hlo'), joinBytes_hiByte_loByte]
  rw [pop16, hread, andThen_of_next, hsp, BitVec.sub_add_cancel]

theorem exec_ret_of_pop16 {t : State} {p : Word × State} (h : pop16 t = .next p) :
    exec .ret t = .next { p.2 with pc := p.1, cycles := 4 } := by
  refine (exec_instr .ret t).trans ?_
  rw [execForm, doRet, h, andThen_of_next, finish]

/-- Settles O46: the pop reads the two bytes of the push, which nothing between the two changes. -/
theorem popUndoesPush : Obligations.PopUndoesPush := by
  intro s hm hhi hlo
  have hacc : Accessible2 s (s.sp - 2) := ⟨accessible_of_stored hhi, accessible_of_stored hlo⟩
  have hrom (v : Word) : (afterWrite2 (s.sp - 2) v s).romLength = s.romLength := by simp [afterWrite2]
  refine ⟨fun v => ?word, fun nn => ?call⟩
  case word => exact ⟨_, _, push16_accessible v hacc, pop16_of_pushed hm hhi hlo rfl rfl rfl (hrom v), rfl⟩
  case call =>
    have hcall : exec (.call_nn nn) s = _ := push16_then s.pc hacc _
    have hret := exec_ret_of_pop16 (pop16_of_pushed (t := { afterWrite2 (s.sp - 2) s.pc s with
      sp := s.sp - 2, pc := nn, cycles := 6 }) hm hhi hlo rfl rfl rfl (hrom s.pc))
    exact ⟨_, _, hcall, rfl, hret, rfl, rfl, by simp [afterWrite2]⟩

end Sys2Proof.Machine
end

section
/-! The arithmetic functions by integers (40_alu8.md R110, R111; 41_alu16.md R160; 42_rotate_shift_bit.md R174). -/

namespace Sys2Proof.Machine

/-! ## The adders -/

/-- Settles O19: the sum is taken on integers, and a borrow out of the byte wraps once. -/
theorem add8AndSub8ByIntegers : Obligations.Add8AndSub8ByIntegers := by
  intro x y cin
  refine ⟨⟨BitVec.toNat_ofNat _ _, decide_eq_true_iff, rfl, decide_eq_true_iff, decide_eq_true_iff⟩,
    ?difference, decide_eq_true_iff, rfl, decide_eq_true_iff, decide_eq_true_iff⟩
  have hx := x.isLt
  have hy := y.isLt
  have hc := cin.toNat_le
  simp only [sub8, BitVec.toNat_sub, BitVec.toNat_ofNat]
  omega

/-- Settles O20: the sum is taken on integers. -/
theorem add16ByIntegers : Obligations.Add16ByIntegers := fun _ _ =>
  ⟨BitVec.toNat_ofNat _ _, decide_eq_true_iff, rfl, decide_eq_true_iff, decide_eq_true_iff⟩

/-! ## The one-byte transforms -/

/-- A bit at the low end of a byte shifted up: the shift leaves its place empty. -/
theorem toNat_shiftUp_or (x : Byte) (b : Bool) :
    ((x <<< 1) ||| bitAt 0 b).toNat = x.toNat * 2 % 256 + b.toNat := by
  have hb : (bitAt 0 b).toNat = b.toNat := by cases b <;> rfl
  have hx : (x <<< 1).toNat = 2 ^ 1 * (x.toNat % 128) := by
    rw [BitVec.toNat_shiftLeft, Nat.shiftLeft_eq]
    omega
  rw [BitVec.toNat_or, hb, hx, ← Nat.two_pow_add_eq_or_of_lt (by cases b <;> decide)]
  omega

/-- A bit at the high end of a byte shifted down: the shift leaves its place empty. -/
theorem toNat_shiftDown_or (x : Byte) (b : Bool) :
    ((x >>> 1) ||| bitAt 7 b).toNat = x.toNat / 2 + b.toNat * 128 := by
  have hlt : x.toNat / 2 < 2 ^ 7 := by have := x.isLt; omega
  have hb : (bitAt 7 b).toNat = 2 ^ 7 * b.toNat := by cases b <;> rfl
  rw [BitVec.toNat_or, hb, BitVec.toNat_ushiftRight, Nat.shiftRight_eq_div_pow, Nat.or_comm,
    ← Nat.two_pow_add_eq_or_of_lt hlt]
  omega

theorem toNat_shiftUp (x : Byte) : (x <<< 1).toNat = x.toNat * 2 % 256 := by
  rw [BitVec.toNat_shiftLeft, Nat.shiftLeft_eq]

theorem toNat_shiftDown (x : Byte) : (x >>> 1).toNat = x.toNat / 2 := by
  rw [BitVec.toNat_ushiftRight, Nat.shiftRight_eq_div_pow]

theorem toNat_highBit (x : Byte) : (x.getLsbD 7).toNat = x.toNat / 128 := by
  have := x.isLt
  rw [BitVec.getLsbD, Nat.toNat_testBit]
  omega

theorem toNat_lowBit (x : Byte) : (x.getLsbD 0).toNat = x.toNat % 2 := by
  rw [BitVec.getLsbD, Nat.toNat_testBit]
  omega

theorem highBit_iff (x : Byte) : x.getLsbD 7 = true ↔ x.toNat / 128 = 1 := by
  rw [← toNat_highBit, Bool.toNat_eq_one]

theorem lowBit_iff (x : Byte) : x.getLsbD 0 = true ↔ x.toNat % 2 = 1 := by
  rw [← toNat_lowBit, Bool.toNat_eq_one]

/-- The sign that `Sra` keeps is one bit. -/
theorem and_0x80_eq_bitAt (x : Byte) : x &&& 0x80 = bitAt 7 (x.getLsbD 7) := by
  revert x
  decide

/-- `Swap`: the low nibble moved up leaves room for the high nibble moved down. -/
theorem toNat_swap (x : Byte) :
    (((x <<< 4) &&& (0xF0 : Byte)) ||| (x >>> 4)).toNat = x.toNat % 16 * 16 + x.toNat / 16 := by
  have hlt : x.toNat / 16 < 2 ^ 4 := by have := x.isLt; omega
  have hup : ((x <<< 4) &&& (0xF0 : Byte)).toNat = 2 ^ 4 * (x.toNat % 16) := by
    rw [show (x <<< 4) &&& (0xF0 : Byte) = x <<< 4 by revert x; decide, BitVec.toNat_shiftLeft, Nat.shiftLeft_eq]
    omega
  rw [BitVec.toNat_or, hup, BitVec.toNat_ushiftRight, Nat.shiftRight_eq_div_pow, ← Nat.two_pow_add_eq_or_of_lt hlt]
  omega

/-- Settles O21: each transform is a shift, with a bit in the place the shift leaves empty; the carry-out is the bit it
moves out. -/
theorem oneByteTransformsByIntegers : Obligations.OneByteTransformsByIntegers := by
  intro x cin
  refine ⟨⟨?rlc, highBit_iff x⟩, ⟨?rrc, lowBit_iff x⟩, ⟨toNat_shiftUp_or x cin, highBit_iff x⟩,
    ⟨toNat_shiftDown_or x cin, lowBit_iff x⟩, ⟨toNat_shiftUp x, highBit_iff x⟩, ⟨?sra, lowBit_iff x⟩,
    ⟨toNat_swap x, rfl⟩, toNat_shiftDown x, lowBit_iff x⟩
  case rlc => exact (toNat_shiftUp_or x _).trans (by rw [toNat_highBit])
  case rrc => exact (toNat_shiftDown_or x _).trans (by rw [toNat_lowBit])
  case sra => rw [rotate, and_0x80_eq_bitAt, toNat_shiftDown_or, toNat_highBit]

end Sys2Proof.Machine
end

section
/-! The step (30_encoding.md R80): fetch, the bytes stored at `PC`, the timers, the session. -/

namespace Sys2Proof.Machine

/-! ## The step of a running session -/

theorem step_running {s : State} (h : Running s) :
    step s = andThen (fetchInstr s) fun p => andThen (exec p.1 p.2) fun t => .next (tickTimers t) := by
  obtain ⟨hfault, hhalted⟩ := h
  simp [step, runStep, hfault, hhalted]

theorem step_halted {s : State} (hfault : s.fault = none) (hhalted : s.halted = true) : step s = .next s := by
  simp [step, runStep, hfault, hhalted]

theorem step_faulted {s : State} {f : Fault} (h : s.fault = some f) : step s = .refused .faultedSession := by
  rw [step, runStep, h]

theorem step_of_fetchInstr {s s1 : State} {i : Instr} (hr : Running s) (h : fetchInstr s = .next (i, s1)) :
    step s = andThen (exec i s1) fun t => .next (tickTimers t) := by
  rw [step_running hr, h, andThen_of_next]

/-! ## Fetch -/

theorem fetchInstr_of_fetches {s s1 s2 : State} {op : Byte} {tail : List Byte} {i : Instr} {rest : List Byte}
    (hop : fetch8 s = .next (op, s1)) (htail : fetchBytes (fetchLength op - 1) s1 = .next (tail, s2))
    (hdec : decode (op :: tail) = .ok (i, rest)) : fetchInstr s = .next (i, s2) := by
  rw [fetchInstr, hop, andThen_of_next, htail, andThen_of_next, hdec]

/-- Fetching one byte more is fetching the first, then the others. -/
theorem fetchBytes_succ_next {n : Nat} {s s2 : State} {op : Byte} {tail : List Byte}
    (h : fetchBytes (n + 1) s = .next (op :: tail, s2)) :
    ∃ s1, fetch8 s = .next (op, s1) ∧ fetchBytes n s1 = .next (tail, s2) := by
  obtain ⟨p, hp, h⟩ := andThen_next h
  obtain ⟨q, hq, h⟩ := andThen_next h
  cases h
  exact ⟨p.2, hp, hq⟩

theorem fetchInstr_of_fetchBytes {s s1 : State} {op : Byte} {tail : List Byte} {i : Instr} {rest : List Byte}
    (h : fetchBytes (fetchLength op) s = .next (op :: tail, s1)) (hdec : decode (op :: tail) = .ok (i, rest)) :
    fetchInstr s = .next (i, s1) := by
  rw [← Nat.sub_add_cancel (fetchLength_range op).1] at h
  obtain ⟨s0, hop, htail⟩ := fetchBytes_succ_next h
  exact fetchInstr_of_fetches hop htail hdec

theorem fetchInstr_stop_first {s : State} {f : Fault} (h : fetch8 s = .fault f) : fetchInstr s = .fault f := by
  rw [fetchInstr, h, andThen_of_fault]

theorem fetchInstr_stop_operand {s s1 : State} {op : Byte} {f : Fault} (hop : fetch8 s = .next (op, s1))
    (htail : fetchBytes (fetchLength op - 1) s1 = .fault f) : fetchInstr s = .fault f := by
  rw [fetchInstr, hop, andThen_of_next, htail, andThen_of_fault]

/-- Settles O6: the step is the fetch, then the execution, then the tick; where the fetch stops, so does the step. -/
theorem stepRunsTheFetchedInstruction : Obligations.StepRunsTheFetchedInstruction := by
  refine ⟨fun s s1 op tail i hr h hdec => step_of_fetchInstr hr (fetchInstr_of_fetchBytes h hdec),
    fun s f hr h => ?_, fun s s1 op f hr hop htail => ?_, fun s => step_halted⟩
  · rw [step_running hr, fetchInstr_stop_first h, andThen_of_fault]
  · rw [step_running hr, fetchInstr_stop_operand hop htail, andThen_of_fault]

/-! ## The instruction stored at `PC` (20_memory.md R61) -/

theorem add_succ_word (w : Word) (k : Nat) : w + 1 + BitVec.ofNat 16 k = w + BitVec.ofNat 16 (k + 1) := by
  rw [BitVec.add_assoc, Nat.add_comm k 1, BitVec.ofNat_add]
  rfl

/-- Bytes stored from `PC` on are the bytes fetched. -/
theorem fetchBytes_of_stored (bytes : List Byte) {s : State}
    (h : ∀ k, k < bytes.length → storedByte (s.pc + BitVec.ofNat 16 k) s = some (bytes.getD k 0)) :
    fetchBytes bytes.length s = .next (bytes, { s with pc := s.pc + BitVec.ofNat 16 bytes.length }) := by
  induction bytes generalizing s with
  | nil => simp [fetchBytes]
  | cons op tail ih =>
    have hop : storedByte s.pc s = some op := by simpa using h 0 (by simp)
    have htail (k : Nat) (hk : k < tail.length) :
        storedByte (s.pc + 1 + BitVec.ofNat 16 k) { s with pc := s.pc + 1 } = some (tail.getD k 0) := by
      rw [add_succ_word]
      exact (storedByte_congr _ rfl rfl rfl).trans (h (k + 1) (by simpa using hk))
    rw [List.length_cons, fetchBytes, fetch8_of_stored hop, andThen_of_next, ih htail, andThen_of_next, add_succ_word]

/-- A row is encoded in as many bytes as its step fetches: only `STOP` leaves its second byte to its operation. -/
theorem encode_eq_cons {i : Instr} (hi : isPrefixRow i = false) (hstop : i ≠ .stop) :
    ∃ op tail, encode i = op :: tail ∧ fetchLength op = tail.length + 1 := by
  have hdec : decode (encode i) = .ok (i, []) := by simpa using decodeOfEncodeIsTheInstruction i [] hi
  generalize encode i = bytes at hdec ⊢
  obtain _ | ⟨op, tail⟩ := bytes
  · cases hdec
  have hop : op ≠ 0x10 := by
    rintro rfl
    rw [decode_stop rfl] at hdec
    exact hstop (congrArg Prod.fst (Except.ok.inj hdec)).symm
  have hle : lengthOf op tail ≤ tail.length + 1 := by
    by_contra hlt
    obtain ⟨e, he⟩ := decode_of_lt_length (Nat.lt_of_not_le hlt)
    rw [he] at hdec
    cases hdec
  obtain ⟨j, hj⟩ := decode_of_length_le hle
  rw [hdec] at hj
  have hdrop : tail.length ≤ lengthOf op tail - 1 := List.drop_eq_nil_iff.1 (congrArg Prod.snd (Except.ok.inj hj)).symm
  have hpos := (lengthOf_range op tail).1
  exact ⟨op, tail, rfl, by rw [← lengthOf_of_ne_stop tail hop]; omega⟩

theorem fetchInstr_of_storedRow {s : State} {i : Instr} (hi : isPrefixRow i = false) (hstop : i ≠ .stop)
    (h : ∀ k, k < (encode i).length → storedByte (s.pc + BitVec.ofNat 16 k) s = some ((encode i).getD k 0)) :
    fetchInstr s = .next (i, { s with pc := s.pc + BitVec.ofNat 16 (encode i).length }) := by
  have hbytes := fetchBytes_of_stored (encode i) h
  have hdec : decode (encode i) = .ok (i, []) := by simpa using decodeOfEncodeIsTheInstruction i [] hi
  obtain ⟨op, tail, hcons, hlen⟩ := encode_eq_cons hi hstop
  rw [hcons] at hbytes hdec ⊢
  rw [List.length_cons, ← hlen] at hbytes ⊢
  exact fetchInstr_of_fetchBytes hbytes hdec

/-- Of `STOP` the step fetches the opcode byte alone (46_system.md R282). -/
theorem fetchInstr_of_storedStop {s : State} (h : storedByte s.pc s = some 0x10) :
    fetchInstr s = .next (.stop, { s with pc := s.pc + 1 }) :=
  fetchInstr_of_fetches (fetch8_of_stored h) rfl rfl

/-- Settles O7: the stored bytes are fetched whole and decode to the row they encode. -/
theorem stepRunsTheInstructionStoredAtPc : Obligations.StepRunsTheInstructionStoredAtPc := by
  refine ⟨fun s i hr hwf hstop h => ?row, fun s hr h => step_of_fetchInstr hr (fetchInstr_of_storedStop h)⟩
  have hi : isPrefixRow i = false := by
    rw [WellFormed, Bool.and_eq_true, Bool.not_eq_true'] at hwf
    exact hwf.1
  exact step_of_fetchInstr hr (fetchInstr_of_storedRow hi hstop h)

/-! ## `STOP` (46_system.md R282) -/

theorem doStop_eq_of_read {s : State} {v : Byte} {t : State} (h : memRead s.pc s = .next (v, t)) :
    doStop s = if v = 0#8 then .next { t with pc := t.pc + 1, halted := true, cycles := 1 }
      else .next { t with cycles := 1 } := by
  rw [doStop, h, andThen_of_next, finish, finish]

/-- Settles O50: the operation reads the byte after the opcode byte, by the memory port or as a stored byte. -/
theorem stopLooksAtTheNextByte : Obligations.StopLooksAtTheNextByte := by
  refine ⟨fun v rest => ⟨rfl, fun hv => ?decodes⟩, fun s hr hop hzero => ?zero, fun s v hr hop hnext hv => ?other,
    fun s => ⟨fun h hv => ?execZero, fun h hv => ?execOther, fun h => memRead_then_stop h _⟩⟩
  case decodes =>
    rw [decode_stop rfl, lengthOf_stop, List.head?_cons, if_neg (by simpa using hv)]
    rfl
  case zero =>
    have hread : memRead (s.pc + 1) { s with pc := s.pc + 1 } = .next (0, { s with pc := s.pc + 1 }) :=
      memRead_of_stored ((storedByte_congr _ rfl rfl rfl).trans hzero)
    rw [step_of_fetchInstr hr (fetchInstr_of_storedStop hop), exec_eq_execForm]
    refine (congrArg (andThen · _) ((doStop_eq_of_read hread).trans (if_pos rfl))).trans ?_
    rw [andThen_of_next, BitVec.add_assoc]
    rfl
  case other =>
    have hread : memRead (s.pc + 1) { s with pc := s.pc + 1 } = .next (v, { s with pc := s.pc + 1 }) :=
      memRead_of_stored ((storedByte_congr _ rfl rfl rfl).trans hnext)
    rw [step_of_fetchInstr hr (fetchInstr_of_storedStop hop), exec_eq_execForm]
    exact congrArg (andThen · _) ((doStop_eq_of_read hread).trans (if_neg hv))
  case execZero =>
    refine ((exec_instr .stop s).trans (doStop_eq_of_read (memRead_accessible h))).trans ((if_pos hv).trans ?_)
    rw [pc_afterRead]
  case execOther => exact ((exec_instr .stop s).trans (doStop_eq_of_read (memRead_accessible h))).trans (if_neg hv)

/-! ## The session (60_exceptions.md R300, R303; 70_reset_and_hazards.md R330) -/

/-- Settles O8: the fault is written into the session, and a recorded fault is looked at first. -/
theorem aFaultEndsTheSession : Obligations.AFaultEndsTheSession := by
  refine ⟨fun s f h => ?_, fun s f h => step_faulted h⟩
  have hrec : (afterStep s).fault = some f := by rw [afterStep, h]
  exact ⟨hrec, step_faulted hrec, by rw [hostReset, hrec]⟩

theorem hostReset_of_noFault {s : State} (h : s.fault = none) :
    hostReset s = .next { State.reset with
      mem := s.mem, ioIf := s.ioIf, romLength := s.romLength, romTail := s.romTail, portReads := s.portReads } := by
  rw [hostReset, h]

/-- A reset that goes on was of a session that has not faulted. -/
theorem hostReset_next {s t : State} (h : hostReset s = .next t) :
    t = { State.reset with
      mem := s.mem, ioIf := s.ioIf, romLength := s.romLength, romTail := s.romTail, portReads := s.portReads } := by
  cases hf : s.fault with
  | none =>
    rw [hostReset_of_noFault hf] at h
    exact (Host.Outcome.next.inj h).symm
  | some f =>
    rw [hostReset, hf] at h
    cases h

theorem reg_reset (r : Reg8) : State.reset.reg r = 0 := by cases r <;> rfl

/-- Settles O11: `Reset()` is the reset state with the memory of the session. -/
theorem resetRestoresPowerOnState : Obligations.ResetRestoresPowerOnState := by
  refine ⟨⟨rfl, rfl, reg_reset, rfl, rfl, rfl, rfl, rfl, rfl, rfl⟩, fun s h => ⟨_, hostReset_of_noFault h, ?_⟩⟩
  exact ⟨rfl, rfl, reg_reset, rfl, rfl, rfl, rfl, rfl, rfl, rfl, fun a => storedByte_congr a rfl rfl rfl, rfl, rfl⟩

/-! ## The timers (60_exceptions.md R308) -/

/-- A timer after one count: at 0 it stays. -/
def countDown (v : Byte) : Byte := if v = 0 then 0 else v - 1

theorem toNat_countDown (v : Byte) : (countDown v).toNat = v.toNat - 1 := by
  rw [countDown]
  split_ifs with h
  · rw [h]
    rfl
  · bv_omega

theorem tickDisable_eq (s : State) :
    tickDisable s = { s with
      diPending := countDown s.diPending, ime := if s.diPending = 1 then false else s.ime } := by
  rw [tickDisable, countDown]
  obtain h0 | h0 := eq_or_ne s.diPending 0
  · rw [if_pos h0, if_pos h0, if_neg (by rw [h0]; decide), ← h0]
  · simp only [if_neg h0, sub_eq_zero]

theorem tickEnable_eq (s : State) :
    tickEnable s = { s with
      eiPending := countDown s.eiPending, ime := if s.eiPending = 1 then true else s.ime } := by
  rw [tickEnable, countDown]
  obtain h0 | h0 := eq_or_ne s.eiPending 0
  · rw [if_pos h0, if_pos h0, if_neg (by rw [h0]; decide), ← h0]
  · simp only [if_neg h0, sub_eq_zero]

/-- The tick in one expression: both timers count, and the enable timer, examined last, has the last word on `IME`. -/
theorem tickTimers_eq (s : State) :
    tickTimers s = { s with
      diPending := countDown s.diPending
      eiPending := countDown s.eiPending
      ime := if s.eiPending = 1 then true else if s.diPending = 1 then false else s.ime } := by
  rw [tickTimers, tickEnable_eq, tickDisable_eq]

/-- Settles O52: the tick in one expression, read field by field. -/
theorem timersTickAfterAnInstruction : Obligations.TimersTickAfterAnInstruction := by
  intro s
  rw [tickTimers_eq]
  exact ⟨toNat_countDown _, toNat_countDown _, rfl, rfl⟩

end Sys2Proof.Machine
end

section
/-! What an instruction can complete with, said once for the 61 forms. -/

namespace Sys2Proof.Machine

/-! ## The completions of a form -/

/-- `Completes f s n u`: the form `f` may complete on `s` with the cost `n`, and `u` is the state it leaves but for
`cycles` (the rule of each form). Values that no frame tells apart are left free: flags, the byte of `DAA`, the target of
`RST`. The row of 0xCB completes as the row its second byte selects (46_system.md R285), an undefined row never does
(R286). `exec_next` ties it to the model. -/
inductive Completes : Form → State → Byte → State → Prop
  | nop {s} : Completes .nop s 1 s
  | ldPairImm {s rr nn} : Completes (.ldPairImm rr nn) s 3 (s.setPair rr nn)
  | ldPtrA {s p} : Completes (.ldPtrA p) s 2 ((afterWrite (s.ptrAddr p) s.regs.a s).ptrAfter p)
  | incPair {s rr} : Completes (.incPair rr) s 2 (s.setPair rr (s.pair rr + 1))
  | incReg {s r} : Completes (.incReg r) s 1 ((s.setReg r (s.reg r + 1)).setIncFlags (s.reg r))
  | decReg {s r} : Completes (.decReg r) s 1 ((s.setReg r (s.reg r - 1)).setDecFlags (s.reg r))
  | ldRegImm {s r n} : Completes (.ldRegImm r n) s 2 (s.setReg r n)
  | accRot {s op} : Completes (.accRot op) s 1
      ((s.setReg .a (rotate (accRotOp op) s.regs.a s.flagC).res).setFlags false false false
        (rotate (accRotOp op) s.regs.a s.flagC).c)
  | ldAbsSp {s nn} : Completes (.ldAbsSp nn) s 5 (afterWrite2 nn s.sp s)
  | addHl {s rr z n h c} : Completes (.addHl rr) s 2
      ((s.setPair .hl (add16 (s.pair .hl) (s.pair rr)).res).setFlags z n h c)
  | ldAPtr {s p} : Completes (.ldAPtr p) s 2
      (((afterRead (s.ptrAddr p) s).setReg .a (readValue (s.ptrAddr p) s)).ptrAfter p)
  | decPair {s rr} : Completes (.decPair rr) s 2 (s.setPair rr (s.pair rr - 1))
  | stopZero {s} : readValue s.pc s = 0 → Completes .stop s 1 { afterRead s.pc s with pc := s.pc + 1, halted := true }
  | stopOther {s} : readValue s.pc s ≠ 0 → Completes .stop s 1 (afterRead s.pc s)
  | jr {s e} : Completes (.jr e) s 3 { s with pc := s.pc + sext16 e }
  | jrCcTaken {s cc e} : Completes (.jrCc cc e) s 3 { s with pc := s.pc + sext16 e }
  | jrCcNot {s cc e} : Completes (.jrCc cc e) s 2 s
  | daa {s a z n h c} : Completes .daa s 1 ((s.setReg .a a).setFlags z n h c)
  | cpl {s z n h c} : Completes .cpl s 1 ((s.setReg .a (s.regs.a ^^^ 0xFF)).setFlags z n h c)
  | incMem {s} : Completes .incMem s 3
      ((afterWrite (s.pair .hl) (readValue (s.pair .hl) s + 1) (afterRead (s.pair .hl) s)).setIncFlags
        (readValue (s.pair .hl) s))
  | decMem {s} : Completes .decMem s 3
      ((afterWrite (s.pair .hl) (readValue (s.pair .hl) s - 1) (afterRead (s.pair .hl) s)).setDecFlags
        (readValue (s.pair .hl) s))
  | ldMemImm {s n} : Completes (.ldMemImm n) s 3 (afterWrite (s.pair .hl) n s)
  | scf {s z n h c} : Completes .scf s 1 (s.setFlags z n h c)
  | ccf {s z n h c} : Completes .ccf s 1 (s.setFlags z n h c)
  | ldRegReg {s r r'} : Completes (.ldRegReg r r') s 1 (s.setReg r (s.reg r'))
  | ldRegMem {s r} : Completes (.ldRegMem r) s 2 ((afterRead (s.pair .hl) s).setReg r (readValue (s.pair .hl) s))
  | ldMemReg {s r} : Completes (.ldMemReg r) s 2 (afterWrite (s.pair .hl) (s.reg r) s)
  | halt {s} : Completes .halt s 1 { s with halted := true }
  | aluReg {s op r} : Completes (.aluReg op r) s 1 (s.alu op (s.reg r))
  | aluMem {s op} : Completes (.aluMem op) s 2 ((afterRead (s.pair .hl) s).alu op (readValue (s.pair .hl) s))
  | retCcTaken {s cc} : Completes (.retCc cc) s 5 { afterRead2 s.sp s with sp := s.sp + 2, pc := readValue2 s.sp s }
  | retCcNot {s cc} : Completes (.retCc cc) s 2 s
  | pop {s q} : Completes (.pop q) s 3
      (({ afterRead2 s.sp s with sp := s.sp + 2 } : State).setStkPair q (readValue2 s.sp s))
  | jpCcTaken {s cc nn} : Completes (.jpCc cc nn) s 4 { s with pc := nn }
  | jpCcNot {s cc nn} : Completes (.jpCc cc nn) s 3 s
  | jp {s nn} : Completes (.jp nn) s 4 { s with pc := nn }
  | callCcTaken {s cc nn} : s.holds cc = true → Completes (.callCc cc nn) s 6
      { afterWrite2 (s.sp - 2) s.pc s with sp := s.sp - 2, pc := nn }
  | callCcNot {s cc nn} : Completes (.callCc cc nn) s 3 s
  | push {s q} : Completes (.push q) s 4 { afterWrite2 (s.sp - 2) (s.stkPair q) s with sp := s.sp - 2 }
  | aluImm {s op n} : Completes (.aluImm op n) s 2 (s.alu op n)
  | rst {s t pc} : Completes (.rst t) s 4 { afterWrite2 (s.sp - 2) s.pc s with sp := s.sp - 2, pc := pc }
  | ret {s} : Completes .ret s 4 { afterRead2 s.sp s with sp := s.sp + 2, pc := readValue2 s.sp s }
  | prefixCb {s n u} :
      Completes (secondaryForm (readValue s.pc s)) { afterRead s.pc s with pc := s.pc + 1 } n u →
      Completes .prefixCb s n u
  | call {s nn} : Completes (.call nn) s 6 { afterWrite2 (s.sp - 2) s.pc s with sp := s.sp - 2, pc := nn }
  | reti {s} : Completes .reti s 4
      { afterRead2 s.sp s with sp := s.sp + 2, pc := readValue2 s.sp s, ime := true }
  | ldPortA {s n} : Completes (.ldPortA n) s 3 (afterWrite (zeroPage n) s.regs.a s)
  | ldPortCA {s} : Completes .ldPortCA s 2 (afterWrite (zeroPage s.regs.c) s.regs.a s)
  | addSpE {s e z n h c} : Completes (.addSpE e) s 4
      (({ s with sp := (add16 s.sp (sext16 e)).res } : State).setFlags z n h c)
  | jpHl {s} : Completes .jpHl s 1 { s with pc := s.pair .hl }
  | ldAbsA {s nn} : Completes (.ldAbsA nn) s 4 (afterWrite nn s.regs.a s)
  | ldAPort {s n} : Completes (.ldAPort n) s 3 ((afterRead (zeroPage n) s).setReg .a (readValue (zeroPage n) s))
  | ldAPortC {s} : Completes .ldAPortC s 2
      ((afterRead (zeroPage s.regs.c) s).setReg .a (readValue (zeroPage s.regs.c) s))
  | di {s} : Completes .di s 1 { s with diPending := 2 }
  | ldHlSpE {s e z n h c} : Completes (.ldHlSpE e) s 3
      ((s.setPair .hl (add16 s.sp (sext16 e)).res).setFlags z n h c)
  | ldSpHl {s} : Completes .ldSpHl s 2 { s with sp := s.pair .hl }
  | ldAAbs {s nn} : Completes (.ldAAbs nn) s 4 ((afterRead nn s).setReg .a (readValue nn s))
  | ei {s} : Completes .ei s 1 { s with eiPending := 2 }
  | rotReg {s op r} : Completes (.rotReg op r) s 2
      ((s.setReg r (rotate op (s.reg r) s.flagC).res).setRotFlags (rotate op (s.reg r) s.flagC))
  | rotMem {s op} : Completes (.rotMem op) s 4
      ((afterWrite (s.pair .hl) (rotate op (readValue (s.pair .hl) s) s.flagC).res
        (afterRead (s.pair .hl) s)).setRotFlags (rotate op (readValue (s.pair .hl) s) s.flagC))
  | bitReg {s b r} : Completes (.bitReg b r) s 2 (s.setBitFlags b (s.reg r))
  | bitMem {s b} : Completes (.bitMem b) s 3 ((afterRead (s.pair .hl) s).setBitFlags b (readValue (s.pair .hl) s))
  | resReg {s b r} : Completes (.resReg b r) s 2 (s.setReg r (clearBit b (s.reg r)))
  | resMem {s b} : Completes (.resMem b) s 4
      (afterWrite (s.pair .hl) (clearBit b (readValue (s.pair .hl) s)) (afterRead (s.pair .hl) s))
  | setReg {s b r} : Completes (.setReg b r) s 2 (s.setReg r (raiseBit b (s.reg r)))
  | setMem {s b} : Completes (.setMem b) s 4
      (afterWrite (s.pair .hl) (raiseBit b (readValue (s.pair .hl) s)) (afterRead (s.pair .hl) s))

/-! ## What completes went through its accesses -/

theorem memRead_then_next {β : Type} {s : State} {a : Word} {k : Byte × State → Result β} {x : β}
    (h : andThen (memRead a s) k = .next x) : k (readValue a s, afterRead a s) = .next x := by
  obtain ⟨p, hp, hk⟩ := andThen_next h
  obtain ⟨-, rfl⟩ := memRead_next hp
  exact hk

theorem memWrite_then_next {β : Type} {s : State} {a : Word} {v : Byte} {k : State → Result β} {x : β}
    (h : andThen (memWrite a v s) k = .next x) : k (afterWrite a v s) = .next x := by
  obtain ⟨t, ht, hk⟩ := andThen_next h
  obtain ⟨-, rfl⟩ := memWrite_next ht
  exact hk

theorem push16_then_next {β : Type} {s : State} {v : Word} {k : State → Result β} {x : β}
    (h : andThen (push16 v s) k = .next x) : k { afterWrite2 (s.sp - 2) v s with sp := s.sp - 2 } = .next x := by
  obtain ⟨t, ht, hk⟩ := andThen_next h
  rwa [(push16_next ht).2, afterWrite2_withSp] at hk

theorem pop16_then_next {β : Type} {s : State} {k : Word × State → Result β} {x : β}
    (h : andThen (pop16 s) k = .next x) :
    k (readValue2 s.sp s, { afterRead2 s.sp s with sp := s.sp + 2 }) = .next x := by
  obtain ⟨p, hp, hk⟩ := andThen_next h
  obtain ⟨-, rfl⟩ := pop16_next hp
  exact hk

theorem fetch8_then_next {β : Type} {s : State} {k : Byte × State → Result β} {x : β}
    (h : andThen (fetch8 s) k = .next x) :
    k (readValue s.pc s, { afterRead s.pc s with pc := s.pc + 1 }) = .next x := by
  obtain ⟨p, hp, hk⟩ := andThen_next h
  obtain ⟨-, rfl⟩ := fetch8_next hp
  exact hk

/-! ## The secondary table (30_encoding.md R91) -/

/-- The dispatcher's secondary table and the decoder's are one. -/
theorem secondaryEntry_eq (op2 : Byte) (s : State) : secondaryEntry op2 s = execForm (secondaryForm op2) s := by
  rw [secondaryEntry, secondaryForm]
  generalize fieldX op2 = x, r8 (fieldZ op2) = operand
  obtain _ | _ | _ | x := x <;> cases operand <;> rfl

theorem secondaryForm_ne_prefixCb (op2 : Byte) : secondaryForm op2 ≠ .prefixCb := by
  rw [secondaryForm]
  split <;> simp

/-! ## The tie to the model -/

theorem exists_completes_of_ne_prefixCb {f : Form} {s t : State} (hf : f ≠ .prefixCb) (h : execForm f s = .next t) :
    ∃ n u, Completes f s n u ∧ finish n u = .next t := by
  cases f with
  | prefixCb => exact absurd rfl hf
  | undefined u => cases h
  | nop | ldPairImm rr nn | incPair rr | incReg r | decReg r | ldRegImm dst n | accRot op | addHl rr | decPair rr | jr e
  | daa | cpl | scf | ccf | ldRegReg dst src | halt | aluReg op r | jp nn | aluImm op n | addSpE e | jpHl | di
  | ldHlSpE e | ldSpHl | ei | rotReg op r | bitReg b r | resReg b r | setReg b r =>
    exact ⟨_, _, by constructor, h⟩
  | ldAPtr p | ldRegMem dst | aluMem op | ldAPort n | ldAPortC | ldAAbs nn | bitMem b =>
    have hk := memRead_then_next h
    exact ⟨_, _, by constructor, hk⟩
  | ldPtrA p | ldMemImm n | ldMemReg r | ldPortA n | ldPortCA | ldAbsA nn =>
    have hk := memWrite_then_next h
    exact ⟨_, _, by constructor, hk⟩
  | incMem | decMem | rotMem op | resMem b | setMem b =>
    have hk := memWrite_then_next (memRead_then_next h)
    exact ⟨_, _, by constructor, hk⟩
  | push q | rst t | call nn =>
    have hk := push16_then_next h
    exact ⟨_, _, by constructor, hk⟩
  | pop q | ret =>
    have hk := pop16_then_next h
    exact ⟨_, _, by constructor, hk⟩
  | ldAbsSp nn =>
    obtain ⟨u, hu, hk⟩ := andThen_next h
    obtain ⟨-, rfl⟩ := memWrite2_next hu
    exact ⟨_, _, .ldAbsSp, hk⟩
  | reti =>
    obtain ⟨u, hu, hk⟩ := andThen_next h
    obtain ⟨-, rfl⟩ := returnFromInterrupt_next hu
    exact ⟨_, _, .reti, hk⟩
  | stop =>
    have hk := memRead_then_next h
    dsimp only at hk
    split at hk
    · next hzero => exact ⟨_, _, .stopZero hzero, by rwa [pc_afterRead] at hk⟩
    · next hother => exact ⟨_, _, .stopOther hother, hk⟩
  | jrCc cc e =>
    rw [execForm, doJrCc] at h
    split at h
    · exact ⟨_, _, .jrCcTaken, h⟩
    · exact ⟨_, _, .jrCcNot, h⟩
  | jpCc cc nn =>
    rw [execForm, doJpCc] at h
    split at h
    · exact ⟨_, _, .jpCcTaken, h⟩
    · exact ⟨_, _, .jpCcNot, h⟩
  | callCc cc nn =>
    rw [execForm, doCallCc] at h
    split at h
    · next hcc => exact ⟨_, _, .callCcTaken hcc, push16_then_next h⟩
    · exact ⟨_, _, .callCcNot, h⟩
  | retCc cc =>
    rw [execForm, doRetCc] at h
    split at h
    · exact ⟨_, _, .retCcTaken, pop16_then_next h⟩
    · exact ⟨_, _, .retCcNot, h⟩

/-- What `exec` can complete with: one of the completions of the row's form, with its cost in `cycles`. -/
theorem exec_next {i : Instr} {s t : State} (h : exec i s = .next t) :
    ∃ n u, Completes i.form s n u ∧ t = { u with cycles := n } := by
  rw [exec_eq_execForm] at h
  by_cases hcb : i.form = .prefixCb
  · rw [hcb] at h ⊢
    have hsec := fetch8_then_next h
    rw [secondaryEntry_eq] at hsec
    obtain ⟨n, u, hc, hu⟩ := exists_completes_of_ne_prefixCb (secondaryForm_ne_prefixCb _) hsec
    exact ⟨n, u, .prefixCb hc, (Host.Outcome.next.inj hu).symm⟩
  · obtain ⟨n, u, hc, hu⟩ := exists_completes_of_ne_prefixCb hcb h
    exact ⟨n, u, hc, (Host.Outcome.next.inj hu).symm⟩

end Sys2Proof.Machine
end

section
/-! What an instruction leaves unchanged, from its completions: registers, control state, memory, cost. -/

namespace Sys2Proof.Machine

/-! ## Registers under each update -/

theorem reg_congr {s t : State} (h : t.regs = s.regs) (r : Reg8) : t.reg r = s.reg r := by
  cases r <;> simp only [State.reg, h]

theorem reg_setPair_other (s : State) {rr : Reg16} (v : Word) {r : Reg8} (h : inPair rr r = false) :
    (s.setPair rr v).reg r = s.reg r := by
  revert h
  cases rr <;> cases r <;> simp [inPair, State.setPair, State.reg]

theorem reg_setStkPair_other (s : State) {q : RegStk} (v : Word) {r : Reg8} (h : inStkPair q r = false) :
    (s.setStkPair q v).reg r = s.reg r := by
  cases q with
  | bc | de | hl => exact reg_setPair_other s v h
  | af => exact (reg_setF _ r _).trans (reg_setReg_other s .a r _ (of_decide_eq_false h))

theorem f_setStkPair_of_ne_af (s : State) {q : RegStk} (v : Word) (h : q ≠ .af) :
    (s.setStkPair q v).regs.f = s.regs.f := by
  cases q with
  | bc | de | hl => rfl
  | af => exact absurd rfl h

theorem reg_ptrAfter_other (s : State) {p : Ptr} {r : Reg8} (h : (ptrMoves p && inPair .hl r) = false) :
    (s.ptrAfter p).reg r = s.reg r := by
  cases p with
  | bc | de => rfl
  | hlInc | hlDec => exact reg_setPair_other s _ h

theorem reg_alu_other (s : State) {op : AluOp} (v : Byte) {r : Reg8}
    (h : (decide (op ≠ .cp) && decide (r = .a)) = false) : (s.alu op v).reg r = s.reg r := by
  cases op with
  | cp => exact reg_setFlags s r _ _ _ _
  | add | adc | sub | sbc | and | xor | or =>
    exact (reg_setFlags _ r _ _ _ _).trans (reg_setReg_other s .a r _ (of_decide_eq_false h))

/-! ## The register frame -/

section
variable {f : Form} {s u : State} {n : Byte}

theorem Completes.reg_eq (h : Completes f s n u) {r : Reg8} (hr : formWritesReg f r = false) : u.reg r = s.reg r := by
  cases h with
  | prefixCb => cases hr
  | nop | ldAbsSp | stopZero | stopOther | jr | jrCcTaken | jrCcNot | ldMemImm | ldMemReg | halt | retCcTaken | retCcNot
  | jpCcTaken | jpCcNot | jp | callCcTaken | callCcNot | push | rst | ret | call | reti | ldPortA | ldPortCA | jpHl
  | ldAbsA | di | ldSpHl | ei | resMem | setMem => exact reg_congr (by simp [afterRead2, afterWrite2]) r
  | scf | ccf | addSpE | bitReg => exact reg_setFlags _ r _ _ _ _
  | incMem | decMem | rotMem | bitMem => exact (reg_setFlags _ r _ _ _ _).trans (reg_congr (by simp) r)
  | ldRegImm | ldRegReg | resReg | setReg => exact reg_setReg_other s _ r _ (of_decide_eq_false hr)
  | ldRegMem | ldAPort | ldAPortC | ldAAbs =>
    exact (reg_setReg_other _ _ r _ (of_decide_eq_false hr)).trans (reg_congr (by simp) r)
  | incReg | decReg | accRot | daa | cpl | rotReg =>
    exact (reg_setFlags _ r _ _ _ _).trans (reg_setReg_other s _ r _ (of_decide_eq_false hr))
  | ldPairImm | incPair | decPair => exact reg_setPair_other s _ hr
  | addHl | ldHlSpE => exact (reg_setFlags _ r _ _ _ _).trans (reg_setPair_other s _ hr)
  | ldPtrA => exact (reg_ptrAfter_other _ hr).trans (reg_congr (by simp) r)
  | ldAPtr =>
    obtain ⟨ha, hp⟩ := Bool.or_eq_false_iff.1 hr
    exact (reg_ptrAfter_other _ hp).trans
      ((reg_setReg_other _ _ r _ (of_decide_eq_false ha)).trans (reg_congr (by simp) r))
  | aluReg | aluImm => exact reg_alu_other s _ hr
  | aluMem => exact (reg_alu_other _ _ hr).trans (reg_congr (by simp) r)
  | pop => exact (reg_setStkPair_other _ _ hr).trans (reg_congr (by simp [afterRead2]) r)

theorem Completes.f_eq (h : Completes f s n u) (hf : formWritesFlags f = false) : u.regs.f = s.regs.f := by
  cases h with
  | prefixCb | incReg | decReg | accRot | addHl | daa | cpl | incMem | decMem | scf | ccf | aluReg | aluMem | aluImm
  | addSpE | ldHlSpE | rotReg | rotMem | bitReg | bitMem => cases hf
  | pop => exact (f_setStkPair_of_ne_af _ _ (of_decide_eq_false hf)).trans (by simp [afterRead2])
  | _ => simp [afterRead2, afterWrite2]

theorem secondaryForm_keeps_sp_pc (op2 : Byte) :
    formWritesSp (secondaryForm op2) = false ∧ formWritesPc (secondaryForm op2) = false := by
  rw [secondaryForm]
  split <;> exact ⟨rfl, rfl⟩

theorem Completes.sp_eq (h : Completes f s n u) (hsp : formWritesSp f = false) : u.sp = s.sp := by
  induction h with
  | prefixCb _ ih => exact (ih (secondaryForm_keeps_sp_pc _).1).trans (sp_afterRead _ _)
  | @ldPairImm _ rr | @incPair _ rr | @decPair _ rr =>
    cases rr with
    | sp => cases hsp
    | bc | de | hl => simp
  | pop | push | addSpE | callCcTaken | callCcNot | call | retCcTaken | retCcNot | ret | reti | rst | ldSpHl =>
    cases hsp
  | _ => simp [afterWrite2]

theorem Completes.pc_eq (h : Completes f s n u) (hpc : formWritesPc f = false) : u.pc = s.pc := by
  cases h with
  | prefixCb | stopZero | stopOther | jr | jrCcTaken | jrCcNot | jpCcTaken | jpCcNot | jp | jpHl | call | callCcTaken
  | callCcNot | ret | retCcTaken | retCcNot | reti | rst => cases hpc
  | _ => simp [afterRead2, afterWrite2]

/-! ## The control state -/

theorem secondaryForm_not_control (op2 : Byte) :
    secondaryForm op2 ≠ .halt ∧ secondaryForm op2 ≠ .stop ∧ secondaryForm op2 ≠ .reti ∧ secondaryForm op2 ≠ .di ∧
      secondaryForm op2 ≠ .ei := by
  rw [secondaryForm]
  split <;> simp

theorem Completes.halted_eq (h : Completes f s n u) (hhalt : f ≠ .halt) (hstop : f ≠ .stop) : u.halted = s.halted := by
  induction h with
  | prefixCb _ ih =>
    obtain ⟨hhalt', hstop', -⟩ := secondaryForm_not_control _
    exact (ih hhalt' hstop').trans (halted_afterRead _ _)
  | halt => exact absurd rfl hhalt
  | stopZero | stopOther => exact absurd rfl hstop
  | _ => simp [afterRead2, afterWrite2]

theorem Completes.ime_eq (h : Completes f s n u) : u.ime = if f = .reti then true else s.ime := by
  induction h with
  | prefixCb _ ih =>
    obtain ⟨-, -, hreti, -⟩ := secondaryForm_not_control _
    rw [ih, if_neg hreti]
    simp
  | _ => simp [afterRead2, afterWrite2]

theorem Completes.diPending_eq (h : Completes f s n u) : u.diPending = if f = .di then 2 else s.diPending := by
  induction h with
  | prefixCb _ ih =>
    obtain ⟨-, -, -, hdi, -⟩ := secondaryForm_not_control _
    rw [ih, if_neg hdi]
    simp
  | _ => simp [afterRead2, afterWrite2]

theorem Completes.eiPending_eq (h : Completes f s n u) : u.eiPending = if f = .ei then 2 else s.eiPending := by
  induction h with
  | prefixCb _ ih =>
    obtain ⟨-, -, -, -, hei⟩ := secondaryForm_not_control _
    rw [ih, if_neg hei]
    simp
  | _ => simp [afterRead2, afterWrite2]

theorem Completes.session_eq (h : Completes f s n u) :
    u.fault = s.fault ∧ u.romLength = s.romLength ∧ u.romTail = s.romTail := by
  induction h with
  | prefixCb _ ih => simpa using ih
  | _ => simp [afterRead2, afterWrite2]

theorem Completes.cost_range (h : Completes f s n u) : 1 ≤ n.toNat ∧ n.toNat ≤ 6 := by
  induction h with
  | prefixCb _ ih => exact ih
  | _ => decide

end

/-- Settles O57: the completions of the row's form, field by field; the cost is in none of these fields. -/
theorem registersOutsideTheWriteSetAreUnchanged : Obligations.RegistersOutsideTheWriteSetAreUnchanged := by
  intro i s t h
  obtain ⟨n, u, hc, rfl⟩ := exec_next h
  exact ⟨fun r => hc.reg_eq, hc.f_eq, hc.sp_eq, hc.pc_eq⟩

theorem eq_of_form_eq {i j : Instr} (h : i.form = j.form) : i = j := by rw [← instr_form i, h, instr_form]

/-- What an executed instruction does to `IME` and the timers before the tick. -/
theorem exec_timers {i : Instr} {s t : State} (h : exec i s = .next t) :
    t.ime = (if i = .reti then true else s.ime) ∧ t.diPending = (if i = .di then 2 else s.diPending) ∧
      t.eiPending = (if i = .ei then 2 else s.eiPending) := by
  obtain ⟨n, u, hc, rfl⟩ := exec_next h
  have hform {j : Instr} : i.form = j.form ↔ i = j := ⟨eq_of_form_eq, congrArg Instr.form⟩
  refine ⟨hc.ime_eq.trans ?_, hc.diPending_eq.trans ?_, hc.eiPending_eq.trans ?_⟩
  · exact if_congr (hform (j := .reti)) rfl rfl
  · exact if_congr (hform (j := .di)) rfl rfl
  · exact if_congr (hform (j := .ei)) rfl rfl

/-- Settles O58: the completions of the row's form, field by field. -/
theorem controlStateOutsideTheWriteSetIsUnchanged : Obligations.ControlStateOutsideTheWriteSetIsUnchanged := by
  intro i s t h
  obtain ⟨hime, hdi, hei⟩ := exec_timers h
  obtain ⟨n, u, hc, rfl⟩ := exec_next h
  obtain ⟨hfault, hlength, htail⟩ := hc.session_eq
  refine ⟨fun hhalt hstop => hc.halted_eq (fun hf => hhalt (eq_of_form_eq hf)) fun hf => hstop (eq_of_form_eq hf),
    fun hi => hime.trans (if_neg hi), fun hi => hdi.trans (if_neg hi), fun hi => hei.trans (if_neg hi), hfault, hlength,
    htail⟩

/-- Settles O56: the cost of a completion is in `cycles`, and the tick of the timers leaves it there. -/
theorem everyExecutedInstructionLeavesItsCost : Obligations.EveryExecutedInstructionLeavesItsCost := by
  intro s t hrun h
  obtain ⟨-, ⟨hhalted, -⟩ | ⟨-, i, s1, u, -, hexec, rfl⟩⟩ := step_next h
  · rw [hrun] at hhalted
    cases hhalted
  · obtain ⟨n, v, hc, rfl⟩ := exec_next hexec
    rw [cycles_tickTimers]
    exact hc.cost_range

/-! ## Memory -/

/-- Everything memory is made of is the same in the two states. -/
def SameMemory (s t : State) : Prop :=
  t.mem = s.mem ∧ t.ioIf = s.ioIf ∧ t.romLength = s.romLength ∧ t.romTail = s.romTail

theorem SameMemory.trans {s t u : State} (h : SameMemory s t) (h' : SameMemory t u) : SameMemory s u := by
  obtain ⟨hm, hi, hl, ht⟩ := h
  obtain ⟨hm', hi', hl', ht'⟩ := h'
  exact ⟨hm'.trans hm, hi'.trans hi, hl'.trans hl, ht'.trans ht⟩

theorem sameMemory_afterRead (a : Word) (s : State) : SameMemory s (afterRead a s) := by simp [SameMemory]

/-- A write does the same to the same memory. -/
theorem SameMemory.afterWrite {s t : State} (h : SameMemory s t) (a : Word) (v : Byte) :
    SameMemory (afterWrite a v s) (afterWrite a v t) := by
  obtain ⟨hm, hi, hl, ht⟩ := h
  simp only [SameMemory, Machine.afterWrite, hl]
  cases placeOf s.romLength a <;> simp [hm, hi, hl, ht]

/-- `Stored l s u`: the memory of `u` is that of `s` after writes to the addresses `l`, in their order. -/
inductive Stored : List Word → State → State → Prop
  | done {s u} : SameMemory s u → Stored [] s u
  | byte {l s u} (a : Word) (v : Byte) : Stored l (afterWrite a v s) u → Stored (a :: l) s u

theorem Stored.one {s u : State} {a : Word} {v : Byte} (h : SameMemory (afterWrite a v s) u) : Stored [a] s u :=
  .byte a v (.done h)

theorem Stored.two {s u : State} {a v : Word} (h : SameMemory (afterWrite2 a v s) u) : Stored [a, a + 1] s u :=
  .byte a (hiByte v) (.byte (a + 1) (loByte v) (.done h))

theorem Stored.of_sameMemory {l : List Word} {s t u : State} (hst : SameMemory s t) (h : Stored l t u) :
    Stored l s u := by
  induction h generalizing s with
  | done h => exact .done (hst.trans h)
  | byte a v _ ih => exact .byte a v (ih (hst.afterWrite a v))

theorem Stored.memoryOk {l : List Word} {s u : State} (h : Stored l s u) (hm : MemoryOk s) : MemoryOk u := by
  induction h with
  | done h =>
    obtain ⟨hmem, -, hl, ht⟩ := h
    exact MemoryOk_congr hm hmem hl ht
  | byte a v _ ih => exact ih (MemoryOk_afterWrite a v hm)

theorem Stored.storedByte_eq {l : List Word} {s u : State} (h : Stored l s u) (hm : MemoryOk s) {b : Word}
    (hb : ∀ a ∈ l, placeOf s.romLength b ≠ placeOf s.romLength a) : storedByte b u = storedByte b s := by
  induction h with
  | done h =>
    obtain ⟨hmem, hi, hl, -⟩ := h
    exact storedByte_congr b hmem hi hl
  | byte a v _ ih =>
    rw [ih (MemoryOk_afterWrite a v hm) (fun c hc => by simpa using hb c (List.mem_cons_of_mem a hc))]
    exact storedByte_afterWrite_other v hm.1 (hb a List.mem_cons_self)

theorem formStores_secondaryForm (op2 : Byte) (s : State) : formStores (secondaryForm op2) s ⊆ [s.pair .hl] := by
  rw [secondaryForm]
  generalize fieldX op2 = x
  cases r8 (fieldZ op2) with
  | some r => obtain _ | _ | _ | x := x <;> exact List.nil_subset _
  | none =>
    obtain _ | _ | _ | x := x
    · exact List.Subset.refl [s.pair .hl]
    · exact List.nil_subset _
    · exact List.Subset.refl [s.pair .hl]
    · exact List.Subset.refl [s.pair .hl]

/-- A completion stores to no address but those of its form. -/
theorem Completes.stored {f : Form} {s u : State} {n : Byte} (h : Completes f s n u) :
    ∃ l, l ⊆ formStores f s ∧ Stored l s u := by
  induction h with
  | @prefixCb s n u _ ih =>
    obtain ⟨l, hl, hst⟩ := ih
    have hsub := formStores_secondaryForm (readValue s.pc s) { afterRead s.pc s with pc := s.pc + 1 }
    rw [show State.pair { afterRead s.pc s with pc := s.pc + 1 } .hl = s.pair .hl by simp [State.pair]] at hsub
    have hread : SameMemory s { afterRead s.pc s with pc := s.pc + 1 } := sameMemory_afterRead s.pc s
    exact ⟨l, List.Subset.trans hl hsub, .of_sameMemory hread hst⟩
  | ldMemImm | ldMemReg | ldPortA | ldPortCA | ldAbsA =>
    exact ⟨_, List.Subset.refl _, .one ⟨rfl, rfl, rfl, rfl⟩⟩
  | ldPtrA =>
    exact ⟨_, List.Subset.refl _,
      .one ⟨mem_ptrAfter _ _, ioIf_ptrAfter _ _, romLength_ptrAfter _ _, romTail_ptrAfter _ _⟩⟩
  | incMem | decMem | rotMem | resMem | setMem =>
    exact ⟨_, List.Subset.refl _, .one ((sameMemory_afterRead _ _).afterWrite _ _)⟩
  | ldAbsSp | push | rst | call => exact ⟨_, List.Subset.refl _, .two ⟨rfl, rfl, rfl, rfl⟩⟩
  | @callCcTaken s cc nn hcc =>
    have hstores : formStores (.callCc cc nn) s = [s.sp - 2, s.sp - 2 + 1] := if_pos hcc
    exact ⟨_, hstores ▸ List.Subset.refl _, .two ⟨rfl, rfl, rfl, rfl⟩⟩
  | _ => exact ⟨[], List.nil_subset _, .done (by simp [SameMemory, afterRead2])⟩

/-- Settles O59: the addresses of the form are all that a completion stores to. -/
theorem memoryOutsideTheStoredBytesIsUnchanged : Obligations.MemoryOutsideTheStoredBytesIsUnchanged := by
  intro i s t hm h b hb
  obtain ⟨n, u, hc, rfl⟩ := exec_next h
  obtain ⟨l, hl, hst⟩ := hc.stored
  exact hst.storedByte_eq hm fun a ha => hb a (hl ha)

end Sys2Proof.Machine
end

section
/-! What a step can stop with, and what every step keeps. -/

namespace Sys2Proof.Machine

/-! ## Completing or stopping at an access -/

/-- An operation of a step on `s` goes on, or it is the stop of an access that is not accessible in `s`. -/
def NextOrStop {α : Type} (s : State) (r : Result α) : Prop :=
  (∃ x, r = .next x) ∨ ∃ a d, ¬ Accessible s a ∧ r = accessStop a d s

theorem nextOrStop_next {α : Type} (s : State) (x : α) : NextOrStop s (.next x) := .inl ⟨x, rfl⟩

theorem NextOrStop.andThen {α β : Type} {s : State} {r : Result α} {k : α → Result β} (hr : NextOrStop s r)
    (hk : ∀ x, r = .next x → NextOrStop s (k x)) : NextOrStop s (Machine.andThen r k) := by
  obtain ⟨x, rfl⟩ | ⟨a, d, ha, rfl⟩ := hr
  · exact hk x rfl
  · exact .inr ⟨a, d, ha, andThen_accessStop a d s k⟩

/-- Whether an access is accessible, and its stop, depend on the image length alone. -/
theorem NextOrStop.of_romLength {α : Type} {s t : State} {r : Result α} (hlen : t.romLength = s.romLength)
    (h : NextOrStop t r) : NextOrStop s r := by
  obtain hx | ⟨a, d, ha, rfl⟩ := h
  · exact .inl hx
  · exact .inr ⟨a, d, by simpa only [Accessible, hlen] using ha, accessStop_congr a d hlen⟩

theorem memRead_nextOrStop (a : Word) (s : State) : NextOrStop s (memRead a s) := by
  by_cases ha : Accessible s a
  · exact .inl ⟨_, memRead_accessible ha⟩
  · exact .inr ⟨a, .read, ha, memRead_stop ha⟩

theorem memWrite_nextOrStop (a : Word) (v : Byte) (s : State) : NextOrStop s (memWrite a v s) := by
  by_cases ha : Accessible s a
  · exact .inl ⟨_, memWrite_accessible v ha⟩
  · exact .inr ⟨a, .write, ha, memWrite_stop v ha⟩

theorem romLength_of_memRead {s : State} {a : Word} {p : Byte × State} (h : memRead a s = .next p) :
    p.2.romLength = s.romLength := by
  rw [(memRead_next h).2]
  exact romLength_afterRead a s

theorem memRead2_nextOrStop (a : Word) (s : State) : NextOrStop s (memRead2 a s) :=
  (memRead_nextOrStop a s).andThen fun _ hp =>
    ((memRead_nextOrStop _ _).of_romLength (romLength_of_memRead hp)).andThen fun _ _ => nextOrStop_next s _

theorem memWrite2_nextOrStop (a v : Word) (s : State) : NextOrStop s (memWrite2 a v s) := by
  refine (memWrite_nextOrStop a _ s).andThen fun t ht => (memWrite_nextOrStop _ _ t).of_romLength ?_
  rw [(memWrite_next ht).2]
  exact romLength_afterWrite a _ s

theorem push16_nextOrStop (v : Word) (s : State) : NextOrStop s (push16 v s) :=
  (memWrite2_nextOrStop (s.sp - 2) v { s with sp := s.sp - 2 }).of_romLength rfl

theorem pop16_nextOrStop (s : State) : NextOrStop s (pop16 s) :=
  (memRead2_nextOrStop s.sp s).andThen fun _ _ => nextOrStop_next s _

theorem fetch8_nextOrStop (s : State) : NextOrStop s (fetch8 s) :=
  (memRead_nextOrStop s.pc s).andThen fun _ _ => nextOrStop_next s _

theorem romLength_of_fetch8 {s : State} {p : Byte × State} (h : fetch8 s = .next p) : p.2.romLength = s.romLength := by
  rw [(fetch8_next h).2]
  exact romLength_afterRead s.pc s

/-! ## An instruction -/

theorem secondaryForm_ne_undefined (op2 : Byte) (u : UndefOp) : secondaryForm op2 ≠ .undefined u := by
  rw [secondaryForm]
  split <;> simp

theorem execForm_nextOrStop_of_ne_prefixCb {f : Form} (s : State) (hu : ∀ u, f ≠ .undefined u) (hp : f ≠ .prefixCb) :
    NextOrStop s (execForm f s) := by
  cases f with
  | prefixCb => exact absurd rfl hp
  | undefined u => exact absurd rfl (hu u)
  | nop | ldPairImm rr nn | incPair rr | incReg r | decReg r | ldRegImm dst n | accRot op | addHl rr | decPair rr | jr e
  | daa | cpl | scf | ccf | ldRegReg dst src | halt | aluReg op r | jp nn | aluImm op n | addSpE e | jpHl | di
  | ldHlSpE e | ldSpHl | ei | rotReg op r | bitReg b r | resReg b r | setReg b r => exact nextOrStop_next s _
  | ldAPtr p | ldRegMem dst | aluMem op | ldAPort n | ldAPortC | ldAAbs nn | bitMem b =>
    exact (memRead_nextOrStop _ s).andThen fun _ _ => nextOrStop_next s _
  | ldPtrA p | ldMemImm n | ldMemReg r | ldPortA n | ldPortCA | ldAbsA nn =>
    exact (memWrite_nextOrStop _ _ s).andThen fun _ _ => nextOrStop_next s _
  | incMem | decMem | rotMem op | resMem b | setMem b =>
    exact (memRead_nextOrStop _ s).andThen fun _ hp =>
      ((memWrite_nextOrStop _ _ _).of_romLength (romLength_of_memRead hp)).andThen fun _ _ => nextOrStop_next s _
  | push q | rst t | call nn => exact (push16_nextOrStop _ s).andThen fun _ _ => nextOrStop_next s _
  | pop q | ret => exact (pop16_nextOrStop s).andThen fun _ _ => nextOrStop_next s _
  | ldAbsSp nn => exact (memWrite2_nextOrStop nn _ s).andThen fun _ _ => nextOrStop_next s _
  | reti =>
    exact ((pop16_nextOrStop s).andThen fun _ _ => nextOrStop_next s _).andThen fun _ _ => nextOrStop_next s _
  | stop =>
    refine (memRead_nextOrStop s.pc s).andThen fun p _ => ?_
    dsimp only
    split <;> exact nextOrStop_next s _
  | jrCc cc e =>
    rw [execForm, doJrCc]
    split <;> exact nextOrStop_next s _
  | jpCc cc nn =>
    rw [execForm, doJpCc]
    split <;> exact nextOrStop_next s _
  | callCc cc nn =>
    rw [execForm, doCallCc]
    split
    · exact (push16_nextOrStop _ s).andThen fun _ _ => nextOrStop_next s _
    · exact nextOrStop_next s _
  | retCc cc =>
    rw [execForm, doRetCc]
    split
    · exact (pop16_nextOrStop s).andThen fun _ _ => nextOrStop_next s _
    · exact nextOrStop_next s _

/-- What can stop an instruction: an access, and nothing else but being undefined. -/
theorem exec_nextOrStop {i : Instr} (s : State) (hu : ∀ u, i.form ≠ .undefined u) : NextOrStop s (exec i s) := by
  rw [exec_eq_execForm]
  by_cases hp : i.form = .prefixCb
  · rw [hp]
    refine (fetch8_nextOrStop s).andThen fun p h => .of_romLength (romLength_of_fetch8 h) ?_
    rw [secondaryEntry_eq]
    exact execForm_nextOrStop_of_ne_prefixCb _ (secondaryForm_ne_undefined _) (secondaryForm_ne_prefixCb _)
  · exact execForm_nextOrStop_of_ne_prefixCb s hu hp

/-! ## The fetch and the step -/

theorem fetchBytes_nextOrStop (n : Nat) (s : State) : NextOrStop s (fetchBytes n s) := by
  induction n generalizing s with
  | zero => exact nextOrStop_next s _
  | succ k ih =>
    exact (fetch8_nextOrStop s).andThen fun p hp =>
      ((ih p.2).of_romLength (romLength_of_fetch8 hp)).andThen fun _ _ => nextOrStop_next s _

/-- A step fetches enough bytes for its opcode byte, so what it fetches decodes. -/
theorem decode_of_fetchLength {op : Byte} {tail : List Byte} (h : tail.length = fetchLength op - 1) :
    ∃ d, decode (op :: tail) = .ok d := by
  have hle : lengthOf op tail ≤ tail.length + 1 := by
    obtain rfl | hne := eq_or_ne op 0x10
    · exact lengthOf_stop_le tail
    · rw [lengthOf_of_ne_stop tail hne]
      omega
  obtain ⟨i, hi⟩ := decode_of_length_le hle
  exact ⟨_, hi⟩

theorem fetchInstr_nextOrStop (s : State) : NextOrStop s (fetchInstr s) := by
  refine (fetch8_nextOrStop s).andThen fun p hp =>
    ((fetchBytes_nextOrStop _ p.2).of_romLength (romLength_of_fetch8 hp)).andThen fun q hq => ?_
  obtain ⟨d, hd⟩ := decode_of_fetchLength (fetchBytes_frame hq).2
  rw [hd]
  exact nextOrStop_next s _

/-- Fetching moves `PC` and the count of free bytes alone. -/
theorem fetchInstr_frame {s s1 : State} {i : Instr} (h : fetchInstr s = .next (i, s1)) :
    s1 = { s with pc := s1.pc, portReads := s1.portReads } := by
  obtain ⟨op, tail, s0, rest, -, -, -, hframe⟩ := fetchInstr_next h
  dsimp only at hframe
  rw [hframe]

theorem execForm_undefined (u : UndefOp) (s : State) :
    execForm (.undefined u) s = .fault (.unknownOpcode u.byte (s.pc - 1)) := rfl

/-- What a step can do besides going on: stop at an access, or run an undefined row. -/
theorem step_nextOrStop {s : State} (hr : Running s) :
    NextOrStop s (step s) ∨ ∃ i s1 u, fetchInstr s = .next (i, s1) ∧ i.form = .undefined u ∧
      step s = .fault (.unknownOpcode u.byte (s1.pc - 1)) := by
  obtain ⟨⟨i, s1⟩, hfetch⟩ | ⟨a, d, ha, hfetch⟩ := fetchInstr_nextOrStop s
  · have hstep := step_of_fetchInstr hr hfetch
    by_cases hu : ∃ u, i.form = .undefined u
    · obtain ⟨u, hu⟩ := hu
      refine .inr ⟨i, s1, u, hfetch, hu, ?_⟩
      rw [hstep, exec_eq_execForm, hu, execForm_undefined, andThen_of_fault]
    · have hlen : s1.romLength = s.romLength := by rw [fetchInstr_frame hfetch]
      rw [hstep]
      exact .inl (((exec_nextOrStop s1 (not_exists.1 hu)).of_romLength hlen).andThen fun _ _ => nextOrStop_next s _)
  · refine .inl (.inr ⟨a, d, ha, ?_⟩)
    rw [step_running hr, hfetch, andThen_accessStop]

/-! ## The stop of an access -/

theorem accessStop_fault {α : Type} {a : Word} {d : Access} {s : State} {f : Fault}
    (h : (accessStop a d s : Result α) = .fault f) :
    f = .unimplementedRegion a d ∨ f = .unallocatedExternalRam a d := by
  rw [accessStop] at h
  cases hp : placeOf s.romLength a <;> rw [hp] at h <;> cases h <;> simp

theorem accessStop_refused {α : Type} {a : Word} {d : Access} {s : State} {x : Refusal}
    (h : (accessStop a d s : Result α) = .refused x) :
    x = .beyondRomImage a d ∧ placeOf s.romLength a = .beyondImage := by
  rw [accessStop] at h
  cases hp : placeOf s.romLength a <;> rw [hp] at h <;> cases h
  exact ⟨rfl, rfl⟩

theorem placeOf_eq_beyondImage_iff (n : Nat) (a : Word) :
    placeOf n a = .beyondImage ↔ a.toNat < 0x8000 ∧ n ≤ a.toNat := by
  simp only [placeOf]
  split_ifs <;> simp only [true_iff, false_iff] <;> omega

/-- With a full image the stop of an access is one of two faults (20_memory.md R43). -/
theorem accessStop_of_fullImage {α : Type} {a : Word} {d : Access} {s : State} (hlen : 0x8000 ≤ s.romLength) :
    (accessStop a d s : Result α) = .fault (.unimplementedRegion a d) ∨
      (accessStop a d s : Result α) = .fault (.unallocatedExternalRam a d) := by
  rw [accessStop]
  cases hp : placeOf s.romLength a
  case beyondImage =>
    obtain ⟨hlt, hle⟩ := (placeOf_eq_beyondImage_iff _ _).1 hp
    omega
  all_goals simp

/-- A step that does not go on is of a faulted session or of a running one. -/
theorem not_next_step {s : State} (h : ∀ t, step s ≠ .next t) :
    (∃ f, s.fault = some f) ∨ Running s := by
  cases hf : s.fault with
  | some f => exact .inl ⟨f, rfl⟩
  | none =>
    refine .inr ⟨hf, ?_⟩
    by_contra hh
    exact h s (step_halted hf (by simpa using hh))

theorem step_fault_running {s : State} {f : Fault} (h : step s = .fault f) : Running s := by
  obtain ⟨g, hg⟩ | hr := not_next_step (s := s) (by simp [h])
  · rw [step_faulted hg] at h
    cases h
  · exact hr

/-- Settles O60: a running step goes on, stops at an access, or runs an undefined row. -/
theorem aStepCompletesOrRaisesANamedFault : Obligations.AStepCompletesOrRaisesANamedFault := by
  refine ⟨fun s hf hlen => ?full, fun s op2 a h => ?extended, fun s r h => ?refused⟩
  case full =>
    by_cases hnext : ∃ t, step s = .next t
    · exact .inl hnext
    obtain ⟨g, hg⟩ | hr := not_next_step (not_exists.1 hnext)
    · rw [hf] at hg
      cases hg
    obtain (⟨t, ht⟩ | ⟨a, d, -, ha⟩) | ⟨i, s1, u, -, -, hu⟩ := step_nextOrStop hr
    · exact .inl ⟨t, ht⟩
    · obtain hstop | hstop := accessStop_of_fullImage (α := State) (a := a) (d := d) hlen
      · exact .inr (.inr (.inl ⟨a, d, ha.trans hstop⟩))
      · exact .inr (.inr (.inr ⟨a, d, ha.trans hstop⟩))
    · exact .inr (.inl ⟨_, _, hu⟩)
  case extended =>
    obtain (⟨t, ht⟩ | ⟨b, d, -, hb⟩) | ⟨i, s1, u, -, -, hu⟩ := step_nextOrStop (step_fault_running h)
    · rw [h] at ht
      cases ht
    · rw [h] at hb
      simpa using accessStop_fault hb.symm
    · rw [h] at hu
      cases hu
  case refused =>
    obtain ⟨g, hg⟩ | hr := not_next_step (s := s) (by simp [h])
    · rw [step_faulted hg] at h
      exact .inl (Host.Outcome.refused.inj h).symm
    obtain (⟨t, ht⟩ | ⟨a, d, -, ha⟩) | ⟨i, s1, u, -, -, hu⟩ := step_nextOrStop hr
    · rw [h] at ht
      cases ht
    · rw [h] at ha
      exact .inr ⟨a, d, (accessStop_refused ha.symm).1⟩
    · rw [h] at hu
      cases hu

/-! ## The undefined opcodes (46_system.md R286) -/

theorem mem_undefinedOpcodes (op : Byte) :
    op ∈ [0xD3#8, 0xDB, 0xDD, 0xE3, 0xE4, 0xEB, 0xEC, 0xED, 0xF4, 0xFC, 0xFD] ↔ ∃ u : UndefOp, u.byte = op := by
  constructor
  · intro h
    simp only [List.mem_cons, List.not_mem_nil, or_false] at h
    obtain rfl | rfl | rfl | rfl | rfl | rfl | rfl | rfl | rfl | rfl | rfl := h
    exacts [⟨.uD3, rfl⟩, ⟨.uDB, rfl⟩, ⟨.uDD, rfl⟩, ⟨.uE3, rfl⟩, ⟨.uE4, rfl⟩, ⟨.uEB, rfl⟩, ⟨.uEC, rfl⟩, ⟨.uED, rfl⟩,
      ⟨.uF4, rfl⟩, ⟨.uFC, rfl⟩, ⟨.uFD, rfl⟩]
  · rintro ⟨u, rfl⟩
    cases u <;> decide

/-- An undefined opcode byte is a row by itself, its own undefined row. -/
theorem undefinedOpcode_row (u : UndefOp) :
    formatOf u.byte = .bare ∧ primaryForm u.byte 0 0 = .undefined u ∧ fetchLength u.byte = 1 := by
  cases u <;> exact ⟨rfl, rfl, rfl⟩

theorem fetchInstr_of_undefinedOpcode {s s1 : State} {u : UndefOp} (h : fetch8 s = .next (u.byte, s1)) :
    fetchInstr s = .next ((Form.undefined u).instr, s1) := by
  obtain ⟨hbare, hform, hlen⟩ := undefinedOpcode_row u
  have hdec : decode [u.byte] = .ok ((Form.undefined u).instr, []) := by rw [decode_bare hbare, hform]
  exact fetchInstr_of_fetches h (by rw [hlen]; rfl) hdec

/-- An undefined row was fetched as its one byte, at `PC`. -/
theorem fetch8_of_undefinedRow {s s1 : State} {i : Instr} {u : UndefOp} (h : fetchInstr s = .next (i, s1))
    (hu : i.form = .undefined u) : (∃ s0, fetch8 s = .next (u.byte, s0)) ∧ s1.pc = s.pc + 1 := by
  obtain ⟨op, tail, s0, rest, hop, -, hdec, hframe⟩ := fetchInstr_next h
  have hop' : u.byte = op := by
    obtain hbytes | ⟨rfl, -⟩ := encodeOfDecodeIsTheBytes _ _ _ hdec
    · rw [encode_eq_formBytes, hu] at hbytes
      exact (List.cons.inj hbytes).1
    · cases hu
  obtain ⟨-, -, hlen⟩ := undefinedOpcode_row u
  refine ⟨⟨s0, hop' ▸ hop⟩, ?_⟩
  dsimp only at hframe
  rw [hframe, ← hop', hlen]
  exact BitVec.add_zero _

/-- Settles O5: the eleven bytes are the undefined rows' own, and nothing else in a step raises their fault. -/
theorem undefinedOpcodesRaiseUnknownOpcode : Obligations.UndefinedOpcodesRaiseUnknownOpcode := by
  refine ⟨fun u s => ⟨exec_instr (.undefined u) s, encode_instr (.undefined u)⟩, fun s s1 op hr hop hmem => ?raises,
    fun s op addr h => ?only⟩
  case raises =>
    obtain ⟨u, rfl⟩ := (mem_undefinedOpcodes op).1 hmem
    have hpc : s1.pc - 1 = s.pc := by
      obtain ⟨-, hp⟩ := fetch8_next hop
      rw [show s1 = _ from congrArg Prod.snd hp]
      exact BitVec.add_sub_cancel _ _
    rw [step_of_fetchInstr hr (fetchInstr_of_undefinedOpcode hop), exec_instr, execForm_undefined, hpc,
      andThen_of_fault]
  case only =>
    obtain (⟨t, ht⟩ | ⟨b, d, -, hb⟩) | ⟨i, s1, u, hfetch, hu, hstep⟩ := step_nextOrStop (step_fault_running h)
    · rw [h] at ht
      cases ht
    · rw [h] at hb
      simpa using accessStop_fault hb.symm
    · obtain ⟨hop, hpc⟩ := fetch8_of_undefinedRow hfetch hu
      rw [h, hpc, BitVec.add_sub_cancel] at hstep
      cases hstep
      exact ⟨rfl, hop, (mem_undefinedOpcodes _).2 ⟨u, rfl⟩⟩

end Sys2Proof.Machine
end

section
/-! What every executed instruction does to `halted`, `IME` and the timers, and the invariant of a session. -/

namespace Sys2Proof.Machine

/-! ## An executed instruction -/

/-- A step that goes on in the Running state executed the instruction fetched, and ended with the tick. -/
theorem step_executes {s s1 t : State} {i : Instr} (hh : s.halted = false) (hf : fetchInstr s = .next (i, s1))
    (hs : step s = .next t) : s.fault = none ∧ ∃ u, exec i s1 = .next u ∧ t = tickTimers u := by
  obtain ⟨hfault, ⟨hhalted, -⟩ | ⟨-, j, s2, u, hf', hu, rfl⟩⟩ := step_next hs
  · rw [hh] at hhalted
    cases hhalted
  · rw [hf] at hf'
    cases hf'
    exact ⟨hfault, u, hu, rfl⟩

theorem step_halted_next {s t : State} (hh : s.halted = true) (hs : step s = .next t) : t = s := by
  obtain ⟨-, ⟨-, rfl⟩ | ⟨hrun, -⟩⟩ := step_next hs
  · rfl
  · rw [hh] at hrun
    cases hrun

/-! ## `IME` and the timers over a step (60_exceptions.md R307, R308) -/

/-- A timer that `EI` or `DI` arms in this step does not expire in it: it stands at 2. -/
theorem armed_eq_one_iff {c : Prop} [Decidable c] (v : Byte) : (if c then 2 else v) = 1 ↔ v = 1 ∧ ¬ c := by
  by_cases hc : c <;> simp [hc]

theorem step_timers {s s1 t : State} {i : Instr} (hh : s.halted = false) (hf : fetchInstr s = .next (i, s1))
    (hs : step s = .next t) :
    t.diPending = countDown (if i = .di then 2 else s.diPending) ∧
    t.eiPending = countDown (if i = .ei then 2 else s.eiPending) ∧
    t.ime = (if s.eiPending = 1 ∧ i ≠ .ei then true else if s.diPending = 1 ∧ i ≠ .di then false
      else if i = .reti then true else s.ime) := by
  obtain ⟨-, u, hu, rfl⟩ := step_executes hh hf hs
  obtain ⟨hime, hdi, hei⟩ := exec_timers hu
  rw [fetchInstr_frame hf] at hime hdi hei
  rw [tickTimers_eq]
  dsimp only at hime hdi hei ⊢
  rw [hime, hdi, hei]
  exact ⟨rfl, rfl, by simp only [armed_eq_one_iff]⟩

/-- Settles O54: the tick writes `IME` where a timer expires, the last of the two timers of which one at most is armed;
else `RETI` does. -/
theorem imeIsWrittenInFourWays : Obligations.ImeIsWrittenInFourWays := by
  refine ⟨fun s s1 t i hok hh hf hs => ?_, fun s t hh hs => by rw [step_halted_next hh hs], rfl,
    fun s t h => by rw [hostReset_next h]; rfl⟩
  obtain ⟨-, -, hboth⟩ := hok
  obtain ⟨-, -, hime⟩ := step_timers hh hf hs
  rw [hime]
  by_cases hei : s.eiPending = 1
  · have hdi : ¬ (s.diPending = 1 ∧ i ≠ .di) := fun h => hboth ⟨h.1, hei⟩
    rw [if_neg hdi, if_neg hdi]
  · have hei' : ¬ (s.eiPending = 1 ∧ i ≠ .ei) := fun h => hei h.1
    rw [if_neg hei', if_neg hei']

/-! ## The Halted state (10_state.md R20) -/

theorem halted_of_exec_halt {s u : State} (h : exec .halt s = .next u) : u.halted = true := by
  cases h
  rfl

theorem halted_of_exec_stop {s u : State} (h : exec .stop s = .next u) (hrun : s.halted = false) :
    u.halted = true ↔ ∃ s2, memRead s.pc s = .next (0, s2) := by
  obtain ⟨⟨v, s2⟩, hread, -⟩ := andThen_next h
  have hstop : doStop s = .next u := h
  rw [doStop_eq_of_read hread] at hstop
  rw [hread]
  by_cases hv : v = 0#8
  · rw [if_pos hv] at hstop
    cases hstop
    simp [hv]
  · rw [if_neg hv] at hstop
    cases hstop
    have hhalted : s2.halted = false := by
      obtain ⟨-, hp⟩ := memRead_next hread
      rw [show s2 = _ from congrArg Prod.snd hp, halted_afterRead, hrun]
    simp [hv, hhalted]

theorem halted_of_exec {i : Instr} {s u : State} (h : exec i s = .next u) (hrun : s.halted = false) :
    u.halted = true ↔ i = .halt ∨ (i = .stop ∧ ∃ s2, memRead s.pc s = .next (0, s2)) := by
  by_cases hhalt : i = .halt
  · subst hhalt
    simp [halted_of_exec_halt h]
  by_cases hstop : i = .stop
  · subst hstop
    simp [halted_of_exec_stop h hrun]
  · obtain ⟨hsame, -⟩ := controlStateOutsideTheWriteSetIsUnchanged i s u h
    simp [hsame hhalt hstop, hrun, hhalt, hstop]

/-- Settles O55: only `HALT` and `STOP` write `halted`, the tick does not, and a Halted step is no step. -/
theorem haltedIsEnteredByHaltAndStopAndNeverLeft : Obligations.HaltedIsEnteredByHaltAndStopAndNeverLeft := by
  refine ⟨fun s s1 t i hh hf hs => ?_, fun s t => step_halted_next, fun s t h => by rw [hostReset_next h]; rfl⟩
  obtain ⟨-, u, hu, rfl⟩ := step_executes hh hf hs
  rw [halted_tickTimers]
  exact halted_of_exec hu (by rw [fetchInstr_frame hf]; exact hh)

/-! ## The delay of `DI` and `EI` (70_reset_and_hazards.md R334) -/

/-- A step of a row that is neither `HALT` nor `STOP` leaves the core Running. -/
theorem running_after_step {s s1 t : State} {i : Instr} (hh : s.halted = false) (hf : fetchInstr s = .next (i, s1))
    (hs : step s = .next t) (hhalt : i ≠ .halt) (hstop : i ≠ .stop) : t.halted = false := by
  obtain ⟨hiff, -⟩ := haltedIsEnteredByHaltAndStopAndNeverLeft
  simpa [hhalt, hstop] using hiff s s1 t i hh hf hs

/-- Settles O53: the timer stands at 1 after the step that arms it, and expires in the next unless that arms it anew. -/
theorem diAndEiTakeEffectOneInstructionLater : Obligations.DiAndEiTakeEffectOneInstructionLater := by
  constructor
  · intro s s1 t t1 u j ⟨_, hh⟩ hdi hime hf hs hf' hj hs'
    obtain ⟨-, hei1, hime1⟩ := step_timers hh hf hs
    obtain ⟨-, hei2, hime2⟩ := step_timers (running_after_step hh hf hs nofun nofun) hf' hs'
    have ht : t.eiPending = 1 := by rw [hei1, if_pos rfl]; rfl
    rw [if_neg hj, ht] at hei2
    rw [if_pos ⟨ht, hj⟩] at hime2
    exact ⟨by simpa [hdi, hime] using hime1, ht, hime2, hei2⟩
  · intro s s1 t t1 u j ⟨_, hh⟩ hei hime hf hs hf' hj hs'
    obtain ⟨hdi1, hei1, hime1⟩ := step_timers hh hf hs
    obtain ⟨hdi2, -, hime2⟩ := step_timers (running_after_step hh hf hs nofun nofun) hf' hs'
    have ht : t.diPending = 1 := by rw [hdi1, if_pos rfl]; rfl
    have ht' : t.eiPending = 0 := by rw [hei1, if_neg nofun, hei]; rfl
    rw [if_neg hj, ht] at hdi2
    rw [if_neg (by simp [ht']), if_pos ⟨ht, hj⟩] at hime2
    exact ⟨by simpa [hei, hime] using hime1, ht, hime2, hdi2⟩

/-! ## The invariant of a session -/

/-- Every write of `F` masks its low nibble (10_state.md R11). -/
theorem Completes.lowNibble {f : Form} {s u : State} {n : Byte} (h : Completes f s n u) (hs : s.regs.f &&& 0x0F = 0) :
    u.regs.f &&& 0x0F = 0 := by
  induction h with
  | prefixCb _ ih => exact ih (by simpa using hs)
  | incReg | decReg | accRot | addHl | daa | cpl | incMem | decMem | scf | ccf | addSpE | ldHlSpE | rotReg | rotMem
  | bitReg | bitMem => exact lowNibble_setFlags _ _ _ _ _
  | aluReg | aluMem | aluImm => exact lowNibble_alu _ _ _
  | pop => exact lowNibble_setStkPair _ _ _ (by simpa [afterRead2] using hs)
  | _ => simpa [afterRead2, afterWrite2] using hs

theorem TimersOk_of_step {s s1 t : State} {i : Instr} (h : TimersOk s) (hh : s.halted = false)
    (hf : fetchInstr s = .next (i, s1)) (hs : step s = .next t) : TimersOk t := by
  obtain ⟨hdi, hei, -⟩ := h
  obtain ⟨hdi', hei', -⟩ := step_timers hh hf hs
  have hdin : t.diPending.toNat = (if i = .di then 2 else s.diPending).toNat - 1 := by rw [hdi', toNat_countDown]
  have hein : t.eiPending.toNat = (if i = .ei then 2 else s.eiPending).toNat - 1 := by rw [hei', toNat_countDown]
  obtain rfl | hidi := eq_or_ne i .di
  · rw [if_pos rfl] at hdin
    rw [if_neg nofun] at hein
    refine ⟨?_, ?_, ?_⟩ <;> bv_omega
  rw [if_neg hidi] at hdin
  obtain rfl | hiei := eq_or_ne i .ei
  · rw [if_pos rfl] at hein
    refine ⟨?_, ?_, ?_⟩ <;> bv_omega
  · rw [if_neg hiei] at hein
    refine ⟨?_, ?_, ?_⟩ <;> bv_omega

/-- Settles O9: fetch and tick touch no register, flag or byte of memory, and the completion of the instruction keeps
the low nibble of `F` and the canonical memory. -/
theorem everyStepKeepsTheInvariant : Obligations.EveryStepKeepsTheInvariant := by
  intro s t ⟨hlow, htimers, hmem, hcycles, hfault⟩ hs
  obtain ⟨-, ⟨-, rfl⟩ | ⟨hh, i, s1, u, hf, hu, rfl⟩⟩ := step_next hs
  · exact ⟨hlow, htimers, hmem, hcycles, hfault⟩
  have hs1 := fetchInstr_frame hf
  obtain ⟨n, v, hc, rfl⟩ := exec_next hu
  have hmem1 : MemoryOk s1 := MemoryOk_congr hmem (by rw [hs1]) (by rw [hs1]) (by rw [hs1])
  obtain ⟨l, -, hst⟩ := hc.stored
  refine ⟨?_, TimersOk_of_step htimers hh hf hs, ?_, ?_, ?_⟩
  · rw [regs_tickTimers]
    exact hc.lowNibble (by rw [hs1]; exact hlow)
  · exact MemoryOk_congr (hst.memoryOk hmem1) (mem_tickTimers _) (romLength_tickTimers _) (romTail_tickTimers _)
  · rw [cycles_tickTimers]
    exact hc.cost_range.2
  · rw [fault_tickTimers]
    refine hc.session_eq.1.trans ?_
    rw [hs1]
    exact hfault

/-! ## The row of 0xCB (46_system.md R285) -/

theorem fetch8_accessible {s : State} (h : Accessible s s.pc) :
    fetch8 s = .next (readValue s.pc s, { afterRead s.pc s with pc := s.pc + 1 }) := by
  rw [fetch8, memRead_accessible h, andThen_of_next]
  simp

theorem exec_prefixCb_accessible {s : State} (h : Accessible s s.pc) :
    exec .prefix_CB s =
      exec (secondaryForm (readValue s.pc s)).instr { afterRead s.pc s with pc := s.pc + 1 } := by
  rw [exec_instr, ← secondaryEntry_eq]
  refine (exec_instr .prefixCb s).trans ?_
  rw [execForm, doPrefixCb, fetch8_accessible h, andThen_of_next]

/-- A row of the secondary table on a register always completes, one on `(HL)` where `HL` is accessible. -/
theorem secondaryForm_completes {op2 : Byte} {s : State}
    (h : secondaryOperand op2 ≠ none ∨ Accessible s (s.pair .hl)) : ∃ t, execForm (secondaryForm op2) s = .next t := by
  rw [secondaryOperand] at h
  rw [secondaryForm]
  generalize fieldX op2 = x
  cases hr : r8 (fieldZ op2) with
  | some r => obtain _ | _ | _ | x := x <;> exact ⟨_, rfl⟩
  | none =>
    have hacc : Accessible s (s.pair .hl) := h.resolve_left (not_not.2 hr)
    obtain _ | _ | _ | x := x
    · exact ⟨_, memUpdate_then hacc (fun v => (rotate (rotOf (fieldY op2)) v s.flagC).res)
        fun v t => finish 4 (t.setRotFlags (rotate (rotOf (fieldY op2)) v s.flagC))⟩
    · exact ⟨_, memRead_then hacc _⟩
    · exact ⟨_, memUpdate_then hacc (clearBit (ix8 (fieldY op2))) fun _ t => finish 4 t⟩
    · exact ⟨_, memUpdate_then hacc (raiseBit (ix8 (fieldY op2))) fun _ t => finish 4 t⟩

/-- Settles O51: the fetch of the second byte goes through or is the stop; the row it selects moves neither `PC` nor
`SP`. -/
theorem prefixRunsTheSecondaryEntry : Obligations.PrefixRunsTheSecondaryEntry := by
  refine ⟨fun s => exec_prefixCb_accessible, fun s hpc hop => ?completes, fun s h => ?stops⟩
  case completes =>
    have hhl : State.pair { afterRead s.pc s with pc := s.pc + 1 } .hl = s.pair .hl := by simp [State.pair]
    have hop' : secondaryOperand (readValue s.pc s) ≠ none ∨ Accessible { afterRead s.pc s with pc := s.pc + 1 }
        (State.pair { afterRead s.pc s with pc := s.pc + 1 } .hl) := by
      rw [hhl]
      exact hop.imp_right accessible_afterRead.2
    obtain ⟨t, ht⟩ := secondaryForm_completes hop'
    rw [← exec_instr] at ht
    obtain ⟨-, -, hsp, hpc'⟩ := registersOutsideTheWriteSetAreUnchanged _ _ _ ht
    rw [form_instr] at hsp hpc'
    obtain ⟨hwsp, hwpc⟩ := secondaryForm_keeps_sp_pc (readValue s.pc s)
    exact ⟨t, (exec_prefixCb_accessible hpc).trans ht, hpc' hwpc, (hsp hwsp).trans (sp_afterRead _ _)⟩
  case stops =>
    refine (exec_instr .prefixCb s).trans ?_
    rw [execForm, doPrefixCb, fetch8, memRead_then_stop h, andThen_accessStop]

end Sys2Proof.Machine
end
